-- ==== Sys2Proof/Word.lean ====
section
/-! DEFINITION. The word types of the model (00_scope.md R8): a byte is eight bits, bit 7 the most significant. -/

namespace Sys2Proof

/-- A byte: a buffer cell, the shift register, the address register (10_state.md R10, R11, R13, R18). -/
abbrev Byte := BitVec 8

/-- A 7-bit device address (00_scope.md R7, 30_encoding.md R61). -/
abbrev Addr7 := BitVec 7

end Sys2Proof
end

