-- ==== Sys2Proof/Syntax.lean ====
section
/-! DEFINITION. The operations of the block: one constructor per row of spec/opcode_table.json (30_encoding.md R69, R74). -/

namespace Sys2Proof

/-- The two values of `SDA_DIR` (10_state.md R20): `IN` (released) and `OUT` (driven with `SR[7]`). -/
inductive Dir where
  | input
  | output
deriving DecidableEq, Repr

/-- The operations. The five wire formats stand for the master's side of one shift group (log 11). -/
inductive Instr where
  /-- Row SLA+W: address byte of a write transaction, `a` the address called (R61, R63, R114). -/
  | slaW (a : Addr7)
  /-- Row SLA+R: address byte of a read transaction (R61, R63, R114). -/
  | slaR (a : Addr7)
  /-- Row ACK: the data line is low in the slot after a byte (R65). -/
  | ack
  /-- Row NACK: the master leaves the data line released in the slot after a byte (R65). -/
  | nack
  /-- Row DATA: the eight levels the master puts on the data line, bit 7 first (R66). -/
  | data (d : Byte)
  /-- Row SVC_START, key `0sss`; `sss`, the PSTATE code at entry, is ignored (R70, R101). -/
  | svcStart (sss : BitVec 3)
  /-- Row CHECK_ADDRESS, key `1000` (R114). -/
  | checkAddress
  /-- Row SEND_DATA, key `1001` (R115). -/
  | sendData
  /-- Row REQUEST_REPLY_FOR_SEND, key `1010` (R116). -/
  | requestReplyForSend
  /-- Row CHECK_REPLY_FOR_SEND, key `1011` (R117). -/
  | checkReplyForSend
  /-- Row REQUEST_DATA, key `1100` (R118). -/
  | requestData
  /-- Row GET_DATA_AND_ACK, key `1101` (R119). -/
  | getDataAndAck
  /-- Row ACK_ARM (R111). -/
  | ackArm
  /-- Row FORCE_IDLE (R112). -/
  | forceIdle
  /-- Row LOAD_AND_ARM (R113). -/
  | loadAndArm
  /-- Row INIT (R140). -/
  | init
  /-- Row SET_ADDRESS, operand a 7-bit DeviceAddress (R141). -/
  | setAddress (a : Addr7)
  /-- Row RX_READ, operand a byte index (R142). -/
  | rxRead (i : Nat)
  /-- Row RXCUR_READ (R143). -/
  | rxcurRead
  /-- Row TX_WRITE, operands a byte index and a byte (R144). -/
  | txWrite (i : Nat) (b : Byte)
  /-- Row TXCUR_RESET (R145). -/
  | txcurReset
  /-- Row FLAG_READ (R146). -/
  | flagRead
  /-- Row CLR_FRAME_STARTED (R147). -/
  | clrFrameStarted
  /-- Row CLR_BYTE_RECEIVED (R148). -/
  | clrByteReceived
  /-- Row IRQ_DISABLE (R149). -/
  | irqDisable
  /-- Row IRQ_ENABLE (R150). -/
  | irqEnable
  /-- Row SR_READ (R81). -/
  | srRead
  /-- Row SR_WRITE (R82). -/
  | srWrite (b : Byte)
  /-- Row SDA_DIR_SET (R83). -/
  | sdaDirSet (d : Dir)
  /-- Row ARM, operand the group length, legal values 1 and 8 (R84). -/
  | arm (n : Nat)
  /-- Row TRIG_SET, operands the new START_EN and SHIFT_EN (R85). -/
  | trigSet (se he : Bool)
  /-- Row LINE_READ (R86). -/
  | lineRead
  /-- Row BUS_START (R90). -/
  | busStart
  /-- Row BUS_BIT, operand the level the master puts on the data line (R91). -/
  | busBit (m : Bool)
  /-- Row BUS_STOP (R92). -/
  | busStop
deriving DecidableEq, Repr

/-- The classes of 30_encoding.md R69, the wire formats of R61, R65, R66 beside them. -/
inductive OpClass where
  | wire
  | svc
  | micro
  | host
  | periph
  | bus
deriving DecidableEq, Repr

/-- The three agents that take steps (00_scope.md R6). -/
inductive Agent where
  /-- The bus master. -/
  | master
  /-- The CORE. -/
  | core
  /-- The collaborator, the software outside the CORE. -/
  | collaborator
deriving DecidableEq, Repr

/-- Why a decoder rejects an item (30_encoding.md R72 (8): unassigned codes are refused). -/
inductive DecodeError where
  /-- Fewer bytes than an item has. Raised by `decode`; safe: the item does nothing. -/
  | truncated
  /-- Bytes after the item. Raised by `decodeWhole`; safe. -/
  | trailing
  /-- A format tag that names no format. Raised by `decode`; safe. -/
  | unassignedFormat
  /-- A code the format does not assign (R70, R71). Raised by `decode`; safe. -/
  | unassignedCode
  /-- Operand bits the operation does not have are not zero. Raised by `decode`; safe. -/
  | operandBits
deriving DecidableEq, Repr

end Sys2Proof
end

