-- ==== Sys2Proof/WellFormed.lean ====
section
/-! DEFINITION. Which operations are well formed: the operands the spec admits and the item format can carry. -/

namespace Sys2Proof

/-- The number of byte indexes an item can carry (log 7). -/
def indexLimit : Nat := 4294967296

/-- A well-formed operation. ARM takes a length of 1 or 8 (40_shift_unit_and_bus.md R84); an index fits the
item's four index bytes (log 7). Whether an index is below a capacity depends on the machine and is checked
where the operation runs (20_memory.md R41). -/
def Instr.wellFormed : Instr → Bool
  | .slaW _ => true
  | .slaR _ => true
  | .ack => true
  | .nack => true
  | .data _ => true
  | .svcStart _ => true
  | .checkAddress => true
  | .sendData => true
  | .requestReplyForSend => true
  | .checkReplyForSend => true
  | .requestData => true
  | .getDataAndAck => true
  | .ackArm => true
  | .forceIdle => true
  | .loadAndArm => true
  | .init => true
  | .setAddress _ => true
  | .rxRead i => decide (i < indexLimit)
  | .rxcurRead => true
  | .txWrite i _ => decide (i < indexLimit)
  | .txcurReset => true
  | .flagRead => true
  | .clrFrameStarted => true
  | .clrByteReceived => true
  | .irqDisable => true
  | .irqEnable => true
  | .srRead => true
  | .srWrite _ => true
  | .sdaDirSet _ => true
  | .arm n => n == 1 || n == 8
  | .trigSet _ _ => true
  | .lineRead => true
  | .busStart => true
  | .busBit _ => true
  | .busStop => true

end Sys2Proof
end

