-- ==== Sys2Proof/Decode.lean ====
section
/-! DEFINITION. Items (the bytes of one operation), their decoder, total on any bytes, and their encoder.

An item is seven bytes: the code as spec/opcode_table.json prints it, a format tag, an operand byte, and a
four-byte index, low byte first. The wire bytes, keys and codes are the spec's (30_encoding.md R61 to R71); the
tag, the operand places and the codes of class MICRO, which the table leaves empty, are the model's (log 7). -/

namespace Sys2Proof

/-- The class of an operation (30_encoding.md R69). -/
def Instr.opClass : Instr → OpClass
  | .slaW _ | .slaR _ | .ack | .nack | .data _ => .wire
  | .svcStart _ | .checkAddress | .sendData | .requestReplyForSend | .checkReplyForSend | .requestData
  | .getDataAndAck => .svc
  | .ackArm | .forceIdle | .loadAndArm => .micro
  | .init | .setAddress _ | .rxRead _ | .rxcurRead | .txWrite _ _ | .txcurReset | .flagRead
  | .clrFrameStarted | .clrByteReceived | .irqDisable | .irqEnable => .host
  | .srRead | .srWrite _ | .sdaDirSet _ | .arm _ | .trigSet _ _ | .lineRead => .periph
  | .busStart | .busBit _ | .busStop => .bus

/-- The agent that takes the operations of a class: bus events and wire bits are the master's, class HOST is the
collaborator's whole interface, and services, micro-operations and primitives are the CORE's alone (00_scope.md R6,
40_shift_unit_and_bus.md R80, 43_init_and_host_ops.md R151). -/
def OpClass.agent : OpClass → Agent
  | .wire => .master
  | .svc => .core
  | .micro => .core
  | .host => .collaborator
  | .periph => .core
  | .bus => .master

/-- The agent that takes an operation. -/
def Instr.agent (i : Instr) : Agent := i.opClass.agent

/-- The address byte that calls `a` with direction bit `d` (30_encoding.md R61: `A` in bits 7:1, `D` in bit 0). -/
def addrByte (a : Addr7) (d : Bool) : Byte := a ++ BitVec.ofBool d

/-- Bits 7:1 of a byte (R61, R62). -/
def addrField (v : Byte) : Addr7 := v.extractLsb' 1 7

/-- Bit 0 of a byte: the direction bit of an address byte (R63), the sampled reply (R65). -/
def lowBit (v : Byte) : Bool := v.getLsbD 0

/-- The index that four bytes hold, low byte first. -/
def indexOf (x0 x1 x2 x3 : Byte) : Nat :=
  x0.toNat + 256 * x1.toNat + 65536 * x2.toNat + 16777216 * x3.toNat

/-- An operation without operands: the operand byte and the index are zero. -/
def bare (op : Byte) (index : Nat) (i : Instr) : Except DecodeError Instr :=
  if op = 0 ∧ index = 0 then .ok i else .error .operandBits

/-- An operation whose operand is a byte. -/
def onByte (op : Byte) (index : Nat) (f : Byte → Instr) : Except DecodeError Instr :=
  if index = 0 then .ok (f op) else .error .operandBits

/-- An operation whose operand is the low `k` bits of the operand byte. -/
def onBits (k : Nat) (op : Byte) (index : Nat) (f : Byte → Instr) : Except DecodeError Instr :=
  if op.toNat < 2 ^ k ∧ index = 0 then .ok (f op) else .error .operandBits

/-- An operation whose operand is the index. -/
def onIndex (op : Byte) (index : Nat) (f : Nat → Instr) : Except DecodeError Instr :=
  if op = 0 then .ok (f index) else .error .operandBits

/-- Class HOST, codes `0000` to `1010`; `1011` to `1111` are unassigned (R71). -/
def decodeHost (code op : Byte) (index : Nat) : Except DecodeError Instr :=
  match code.toNat with
  | 0 => bare op index .init
  | 1 => onBits 7 op index fun b => .setAddress (b.extractLsb' 0 7)
  | 2 => onIndex op index .rxRead
  | 3 => bare op index .rxcurRead
  | 4 => .ok (.txWrite index op)
  | 5 => bare op index .txcurReset
  | 6 => bare op index .flagRead
  | 7 => bare op index .clrFrameStarted
  | 8 => bare op index .clrByteReceived
  | 9 => bare op index .irqDisable
  | 10 => bare op index .irqEnable
  | _ => .error .unassignedCode

/-- Format ADDRBYTE (R61, R63): bits 7:1 the address, bit 0 clear for a write, set for a read. -/
def decodeAddrByte (code op : Byte) (index : Nat) : Except DecodeError Instr :=
  bare op index (if lowBit code then .slaR (addrField code) else .slaW (addrField code))

/-- Format ACKBIT (R65): level 0 is ACK, level 1 is NACK. -/
def decodeAckBit (code op : Byte) (index : Nat) : Except DecodeError Instr :=
  match code.toNat with
  | 0 => bare op index .ack
  | 1 => bare op index .nack
  | _ => .error .unassignedCode

/-- Class SVC, key `t s2 s1 s0` (R70): `0xxx` is SVC_START, `1000` to `1101` the six actions, no other key exists. -/
def decodeSvc (code op : Byte) (index : Nat) : Except DecodeError Instr :=
  match code.toNat with
  | 8 => bare op index .checkAddress
  | 9 => bare op index .sendData
  | 10 => bare op index .requestReplyForSend
  | 11 => bare op index .checkReplyForSend
  | 12 => bare op index .requestData
  | 13 => bare op index .getDataAndAck
  | n => if n < 8 then bare op index (.svcStart (code.extractLsb' 0 3)) else .error .unassignedCode

/-- Class MICRO, which has no key (R69, R74); the model numbers the three rows in the table's order (log 7). -/
def decodeMicro (code op : Byte) (index : Nat) : Except DecodeError Instr :=
  match code.toNat with
  | 0 => bare op index .ackArm
  | 1 => bare op index .forceIdle
  | 2 => bare op index .loadAndArm
  | _ => .error .unassignedCode

/-- Class PERIPH, codes `000` to `101`; `110` and `111` are unassigned (R71). -/
def decodePeriph (code op : Byte) (index : Nat) : Except DecodeError Instr :=
  match code.toNat with
  | 0 => bare op index .srRead
  | 1 => onByte op index .srWrite
  | 2 => onBits 1 op index fun b => .sdaDirSet (if lowBit b then .output else .input)
  | 3 => onByte op index fun b => .arm b.toNat
  | 4 => onBits 2 op index fun b => .trigSet (b.getLsbD 0) (b.getLsbD 1)
  | 5 => bare op index .lineRead
  | _ => .error .unassignedCode

/-- Class BUS, codes `00` to `10`; `11` is unassigned (R71). -/
def decodeBus (code op : Byte) (index : Nat) : Except DecodeError Instr :=
  match code.toNat with
  | 0 => bare op index .busStart
  | 1 => onBits 1 op index fun b => .busBit (lowBit b)
  | 2 => bare op index .busStop
  | _ => .error .unassignedCode

/-- The operation of an item's fields. The tags are the model's (log 7). -/
def decodeFields (code fmt op : Byte) (index : Nat) : Except DecodeError Instr :=
  match fmt.toNat with
  | 0 => decodeHost code op index
  | 1 => decodeAddrByte code op index
  | 2 => decodeAckBit code op index
  | 3 => bare op index (.data code)
  | 4 => decodeSvc code op index
  | 5 => decodeMicro code op index
  | 6 => decodePeriph code op index
  | 7 => decodeBus code op index
  | _ => .error .unassignedFormat

/-- The operation at the head of a list of bytes and the bytes after it, or the reason there is none. -/
def decode : List Byte → Except DecodeError (Instr × List Byte)
  | code :: fmt :: op :: x0 :: x1 :: x2 :: x3 :: rest =>
    match decodeFields code fmt op (indexOf x0 x1 x2 x3) with
    | .ok i => .ok (i, rest)
    | .error e => .error e
  | _ => .error .truncated

/-- The operation that a list of bytes holds and nothing else. -/
def decodeWhole (bs : List Byte) : Except DecodeError Instr :=
  match decode bs with
  | .ok (i, []) => .ok i
  | .ok (_, _ :: _) => .error .trailing
  | .error e => .error e

/-- The seven bytes of an item. -/
def itemBytes (code fmt op : Byte) (index : Nat) : List Byte :=
  [code, fmt, op, BitVec.ofNat 8 index, BitVec.ofNat 8 (index / 256), BitVec.ofNat 8 (index / 65536),
    BitVec.ofNat 8 (index / 16777216)]

/-- The bytes of an operation, from the tables of 30_encoding.md R61 to R71 and log 7. -/
def encode : Instr → List Byte
  | .slaW a => itemBytes (addrByte a false) 1 0 0
  | .slaR a => itemBytes (addrByte a true) 1 0 0
  | .ack => itemBytes 0 2 0 0
  | .nack => itemBytes 1 2 0 0
  | .data d => itemBytes d 3 0 0
  | .svcStart sss => itemBytes ((0 : BitVec 5) ++ sss) 4 0 0
  | .checkAddress => itemBytes 0x8 4 0 0
  | .sendData => itemBytes 0x9 4 0 0
  | .requestReplyForSend => itemBytes 0xA 4 0 0
  | .checkReplyForSend => itemBytes 0xB 4 0 0
  | .requestData => itemBytes 0xC 4 0 0
  | .getDataAndAck => itemBytes 0xD 4 0 0
  | .ackArm => itemBytes 0 5 0 0
  | .forceIdle => itemBytes 1 5 0 0
  | .loadAndArm => itemBytes 2 5 0 0
  | .init => itemBytes 0x0 0 0 0
  | .setAddress a => itemBytes 0x1 0 ((0 : BitVec 1) ++ a) 0
  | .rxRead i => itemBytes 0x2 0 0 i
  | .rxcurRead => itemBytes 0x3 0 0 0
  | .txWrite i b => itemBytes 0x4 0 b i
  | .txcurReset => itemBytes 0x5 0 0 0
  | .flagRead => itemBytes 0x6 0 0 0
  | .clrFrameStarted => itemBytes 0x7 0 0 0
  | .clrByteReceived => itemBytes 0x8 0 0 0
  | .irqDisable => itemBytes 0x9 0 0 0
  | .irqEnable => itemBytes 0xA 0 0 0
  | .srRead => itemBytes 0 6 0 0
  | .srWrite b => itemBytes 1 6 b 0
  | .sdaDirSet .input => itemBytes 2 6 0 0
  | .sdaDirSet .output => itemBytes 2 6 1 0
  | .arm n => itemBytes 3 6 (BitVec.ofNat 8 n) 0
  | .trigSet se he => itemBytes 4 6 ((0 : BitVec 6) ++ BitVec.ofBool he ++ BitVec.ofBool se) 0
  | .lineRead => itemBytes 5 6 0 0
  | .busStart => itemBytes 0 7 0 0
  | .busBit m => itemBytes 1 7 ((0 : BitVec 7) ++ BitVec.ofBool m) 0
  | .busStop => itemBytes 2 7 0 0

/-- A tag that no format has. -/
def noFormat : Byte := 8

/-- The format tag the model gives a word of spec/opcode_table.json, whose bits name no format (log 8). A width
that only one format has decides it (30_encoding.md R74: every pattern has a fixed width). Four bits are a key of the
Shift Engine or a HOST code: `1110` and `1111` are neither (R70, R71). One whole byte, to which the probes fill up the
four-bit words, is read as a HOST code, else as a key of the Shift Engine, else as an address byte. No format has
another width. -/
def tableFormat (nbits w : Nat) : Byte :=
  match nbits with
  | 0 => 5
  | 1 => 2
  | 2 => 7
  | 3 => 6
  | 4 => if w = 11 ∨ w = 12 ∨ w = 13 then 4 else 0
  | 8 => if w ≤ 10 then 0 else if w ≤ 13 then 4 else 1
  | _ => noFormat

/-- The item of a table word: up to eight bits are the code alone, more bits are the item's bytes in order, the
bits above `nbits` zero. -/
def tableBytes (nbits w : Nat) : List Byte :=
  let v := w % 2 ^ nbits
  if nbits ≤ 8 then itemBytes (BitVec.ofNat 8 v) (tableFormat nbits v) 0 0
  else itemBytes (BitVec.ofNat 8 v) (BitVec.ofNat 8 (v / 256)) (BitVec.ofNat 8 (v / 65536)) (v / 16777216)

/-- What the decoder reads from a word numbered as spec/opcode_table.json numbers it. -/
def decodeTableWord (nbits w : Nat) : Option Instr :=
  match decodeWhole (tableBytes nbits w) with
  | .ok i => some i
  | .error _ => none

end Sys2Proof
end

