-- ==== Sys2Proof/Config.lean ====
section
/-! DEFINITION. What an implementation fixes (00_scope.md R7) and the free values the spec leaves open. -/

namespace Sys2Proof

/-- The implementation parameters of 00_scope.md R7. A machine carries them in `State.cfg`, which no
operation writes, so that a statement about every state is a statement about every choice of them (log 1). -/
structure Config where
  /-- `C_rx`, capacity of RxBuffer in bytes, at least 1 (R7, D4). -/
  cRx : Nat
  /-- `C_tx`, capacity of TxBuffer in bytes, at least 1 (R7, D4). -/
  cTx : Nat
  /-- `RX_FLAG_ON_DISCARD`: whether a discarded byte sets `BYTE_RECEIVED` (R7, D20). -/
  rxFlagOnDiscard : Bool
  /-- `START_WAIT_BOUND`: bound of the Start Detector's busy-wait; no rule of state depends on it (R102). -/
  startWaitBound : Nat
  /-- The model's own parameter, one for two readings of the spec (log 25): whether a byte that the master asked for
  with an ACK and that begins with a 0 keeps starts and stops away until all its slots are clocked (true:
  70_reset_and_hazards.md R189, 93_implementation_defined.md U10), or only in the slots whose own bit is 0 (false: R90,
  R92 word for word). Every other byte does so only in those slots. -/
  lowByteHoldsBus : Bool
deriving DecidableEq, Repr

/-- The configuration of `State.reset`. DESIGN CHOICE (log 1): `C_rx`, `C_tx` and `START_WAIT_BOUND` are open
in R7; `RX_FLAG_ON_DISCARD = false` is R7's value. The capacities are those of the state `B` of 95_test_vectors.md.
`lowByteHoldsBus = true` is the reading of 70_reset_and_hazards.md R189 (DESIGN CHOICE, log 25). -/
def Config.atReset : Config :=
  { cRx := 4, cTx := 4, rxFlagOnDiscard := false, startWaitBound := 1, lowByteHoldsBus := true }

/-- `CUR_W`, the width of the cursor of a buffer of capacity `c`: the least `w` with `2^w > c` (R7). -/
def Config.cursorWidth (c : Nat) : Nat := Nat.size c

/-- What a buffer cell reads as that nothing has written. DESIGN CHOICE (log 5): 10_state.md R30 leaves the
content of both buffers after power-on unspecified. -/
def Config.unwritten : Byte := 0x00

/-- FREE VALUE (log 12): the level the bus master puts on the data line at the `n`-th LINE_READ. The lines'
levels are "signals of the environment" (10_state.md R28) and no rule says what the master drives then. -/
opaque Config.masterSda : Nat → Bool

/-- FREE VALUE (log 12): the level the bus master puts on the clock line at the `n`-th LINE_READ. -/
opaque Config.masterScl : Nat → Bool

end Sys2Proof
end

