-- ==== Sys2Proof/Machine/State.lean ====
section
/-! DEFINITION. The state of the machine as plain data (10_state.md), the reasons a step can stop, and reset. -/

namespace Sys2Proof.Machine

/-- `PSTATE`, the ProtocolState: exactly six values (10_state.md R15, 30_encoding.md R68). -/
inductive PState where
  | checkAddress
  | sendData
  | requestReplyForSend
  | checkReplyForSend
  | requestData
  | getDataAndAck
deriving DecidableEq, Repr

/-- A buffer's content: cells by byte index, indexes strictly rising, no cell equal to `Config.unwritten`
(`Memory.wf`, Machine/Ops.lean). The two spaces of 20_memory.md R40 are two values of this type. -/
abbrev Memory := List Host.Cell

/-- What a collaborator operation with a result delivers (30_encoding.md R71). -/
inductive HostResult where
  /-- RX_READ (R142). -/
  | byte (b : Byte)
  /-- RXCUR_READ (R143). -/
  | cursor (n : Nat)
  /-- FLAG_READ (R146): `FRAME_STARTED`, `BYTE_RECEIVED`. -/
  | flags (frameStarted byteReceived : Bool)
deriving DecidableEq, Repr

/-- What a Shift Unit primitive with a result delivers (30_encoding.md R71). -/
inductive UnitResult where
  /-- SR_READ (R81). -/
  | byte (b : Byte)
  /-- LINE_READ (R86): the resolved data and clock levels. -/
  | lines (sda scl : Bool)
deriving DecidableEq, Repr

/-- One step that an agent will take: the bytes of its operation, the agent that presents it (00_scope.md R6), and
whether the step is admitted before a service that could run (`early`; the interleavings of 20_memory.md R49, log 9). -/
structure Input where
  bytes : List Byte
  agent : Agent
  early : Bool
deriving DecidableEq, Repr

/-- The machine. Fields `addr` to `irqInh` are the spec's state (10_state.md R10 to R25); `cfg` is the
configuration (R28, log 1); the last six are the model's own. -/
structure State where
  /-- The implementation parameters; no operation writes them (R28). -/
  cfg : Config
  /-- `ADDR` (R10). -/
  addr : Byte
  /-- `RXBUF` (R11). -/
  rxbuf : Memory
  /-- `RXCUR` (R12). -/
  rxcur : Nat
  /-- `TXBUF` (R13). -/
  txbuf : Memory
  /-- `TXCUR` (R14). -/
  txcur : Nat
  /-- `PSTATE` (R15, R32). -/
  pstate : PState
  /-- `FRAME_STARTED` (R16). -/
  frameStarted : Bool
  /-- `BYTE_RECEIVED` (R17). -/
  byteReceived : Bool
  /-- `SR` (R18). -/
  sr : Byte
  /-- `CNT` (R19). -/
  cnt : Nat
  /-- `SDA_DIR` (R20). -/
  sdaDir : Dir
  /-- `START_EN` (R21). -/
  startEn : Bool
  /-- `SHIFT_EN` (R22). -/
  shiftEn : Bool
  /-- `START_PEND` (R23). -/
  startPend : Bool
  /-- `SHIFT_PEND` (R24). -/
  shiftPend : Bool
  /-- `IRQ_INH` (R25). -/
  irqInh : Bool
  /-- Model's own: the byte that LOAD_AND_ARM loaded last is one that the master asked for with an ACK, and its bit 7
  is 0 (70_reset_and_hazards.md R189, log 25). -/
  ackedLow : Bool
  /-- Model's own: the level `w` of the last bit slot, what the master sampled (R91, R96, log 13). -/
  busResult : Option Bool
  /-- Model's own: what the last collaborator operation with a result delivered (log 13). -/
  hostResult : Option HostResult
  /-- Model's own: what the last primitive with a result delivered (log 13). -/
  unitResult : Option UnitResult
  /-- Model's own: how many free values have been drawn (log 12). -/
  freeIdx : Nat
  /-- Model's own: the steps the agents will take, in order (log 9). -/
  inputs : List Input
deriving DecidableEq, Repr

/-- The block has no exception, no fault, no trap and no error state (60_exceptions.md R160), so there is no
reason to fault: safe, since nothing can raise one. -/
inductive Fault where
deriving DecidableEq, Repr

/-- Why an operation has no effect in a state. -/
inductive Refusal where
  /-- Raised by an arm of `exec` whose operation has no meaning yet. Safe: the operation does nothing. -/
  | notModelled (mnemonic : String)
  /-- Raised by the meanings of class SVC when the service is not enabled (R100, R110): R8's outcome "not
  enabled". Safe: the step is not taken; in `step` the agent waits (log 10). -/
  | serviceNotEnabled
  /-- Raised by bus events and wire formats while `hold = 1` (R91, R95): "not enabled". Safe, as above. -/
  | clockHeld
  /-- Raised by BUS_START and BUS_STOP while the slave holds the data line low (R90, R92), or sends a byte that the
  master acknowledged for, that began with a 0 and waits for its slots (R189, log 25): "not enabled". Safe, as above. -/
  | dataLineLow
  /-- Raised by RX_READ and TX_WRITE for an index at or above the capacity (R41, R142, R144): R8's outcome
  "refuse". Safe: no state change. -/
  | indexOutOfRange
  /-- Raised by ARM for a length other than 1 and 8 (R67, R84): "refuse". Safe: no state change. -/
  | armLength
  /-- Raised by `step` for an operation that the agent presenting it does not have, such as a collaborator's attempt
  to read `SR` or to force idle (43_init_and_host_ops.md R151, R80, R6): "refuse". Safe: no state change. -/
  | notOffered
  /-- Raised by `step` for an input that decodes to no operation (R72 (8)): "refuse". Safe: no state change. -/
  | undecodable (e : DecodeError)
deriving DecidableEq, Repr

/-- The values of the elements that 10_state.md R30 calls unspecified after power-on. -/
structure PowerOn where
  addr : Byte
  rxbuf : Memory
  txbuf : Memory
  pstate : PState
  sr : Byte
deriving DecidableEq, Repr

/-- The unspecified elements as `State.reset` names them. DESIGN CHOICE (log 2 to log 5), unsafe. -/
def PowerOn.named : PowerOn :=
  { addr := 0x00, rxbuf := [], txbuf := [], pstate := .checkAddress, sr := 0x00 }

/-- The state after power-on reset with configuration `cfg` and the unspecified elements at `u`: the table of
10_state.md R30, which quantifies over every `u` (93_implementation_defined.md U1). The fields of the model's own have
no reset value in the spec: DESIGN CHOICE (log 9, log 12, log 13, log 25). -/
def State.resetWith (cfg : Config) (u : PowerOn) : State :=
  { cfg := cfg
    addr := u.addr
    rxbuf := u.rxbuf
    rxcur := 0
    txbuf := u.txbuf
    txcur := 0
    pstate := u.pstate
    frameStarted := false
    byteReceived := false
    sr := u.sr
    cnt := 0
    sdaDir := .input
    startEn := false
    shiftEn := false
    startPend := false
    shiftPend := false
    irqInh := false
    ackedLow := false
    busResult := none
    hostResult := none
    unitResult := none
    freeIdx := 0
    inputs := [] }

/-- The machine right after power-on reset (R30, 70_reset_and_hazards.md R180). -/
def State.reset : State := State.resetWith Config.atReset PowerOn.named

end Sys2Proof.Machine
end

