-- ==== Sys2Proof/Machine/Operands.lean ====
section
/-! DEFINITION. Operand forms and bit fields: address fields, wire bits, the shift of `SR`, codes of `PSTATE`. -/

namespace Sys2Proof.Machine

/-- The eight levels of a byte in the order of the wire, bit 7 first (20_memory.md R46, 30_encoding.md R66; log 16). -/
def wireBits (v : Byte) : List Bool :=
  [v.getLsbD 7, v.getLsbD 6, v.getLsbD 5, v.getLsbD 4, v.getLsbD 3, v.getLsbD 2, v.getLsbD 1, v.getLsbD 0]

/-- `SR[6:0] ++ w`: shift left by one, the new bit at bit 0 (40_shift_unit_and_bus.md R91, R122 (5)). -/
def shiftIn (r : Byte) (w : Bool) : Byte := r.extractLsb' 0 7 ++ BitVec.ofBool w

/-- Address match: bits 7:1 only (30_encoding.md R62). -/
def addrMatch (v : Byte) (addr : Byte) : Bool := addrField v == addrField addr

/-- `a[6:0] ++ 0b0`, the content of `ADDR` for a device address (30_encoding.md R64, R141). -/
def addrReg (a : Addr7) : Byte := addrByte a false

/-- The code of a value of `PSTATE` (30_encoding.md R68). -/
def PState.code : PState → BitVec 3
  | .checkAddress => 0
  | .sendData => 1
  | .requestReplyForSend => 2
  | .checkReplyForSend => 3
  | .requestData => 4
  | .getDataAndAck => 5

end Sys2Proof.Machine
end

