-- ==== Sys2Proof/Machine/Ops.lean ====
section
/-! DEFINITION. The shared operations: the two buffer memories, the derived signals of the block, the enabling of
the two services (the block's only entry into an interrupt context; it takes no exception, 60_exceptions.md R160,
R168), and the Shift Unit's effects. -/

namespace Sys2Proof.Machine

/-- The canonical form of a memory: indexes strictly rising, no cell equal to what an unlisted cell reads as. -/
def Memory.wf : Memory → Bool
  | [] => true
  | (_, b) :: [] => b != Config.unwritten
  | (a, b) :: (c, d) :: m => decide (a < c) && b != Config.unwritten && Memory.wf ((c, d) :: m)

/-- Every listed index is below the capacity `n` (20_memory.md R40: cells `0 .. C-1`). -/
def Memory.within (n : Nat) (m : Memory) : Bool := m.all fun c => decide (c.1 < n)

/-- `MemRead(space:i, 1)` (20_memory.md R41). -/
def Memory.read : Memory → Nat → Byte
  | [], _ => Config.unwritten
  | (a, b) :: m, i => if i = a then b else Memory.read m i

/-- `MemWrite(space:i, 1, v)` (20_memory.md R41), keeping the canonical form. -/
def Memory.write : Memory → Nat → Byte → Memory
  | [], i, v => if v = Config.unwritten then [] else [(i, v)]
  | (a, b) :: m, i, v =>
    if i < a then (if v = Config.unwritten then (a, b) :: m else (i, v) :: (a, b) :: m)
    else if i = a then (if v = Config.unwritten then m else (i, v) :: m)
    else (a, b) :: Memory.write m i v

/-- `slave_sda`: the level the slave puts on the data line, true meaning released (10_state.md R26, R88). -/
def slaveSda (s : State) : Bool :=
  match s.sdaDir with
  | .output => s.sr.getLsbD 7
  | .input => true

/-- `hold`: the slave keeps the clock line low (10_state.md R26, R89). -/
def hold (s : State) : Bool := s.startPend || s.shiftPend

/-- A byte that the master asked for with an ACK and that began with a 0 is being sent and its slots are not all
clocked: the slave keeps starts and stops away (70_reset_and_hazards.md R189, 93_implementation_defined.md U10), where
the configuration takes that reading (DESIGN CHOICE, log 25). -/
def byteHeld (s : State) : Bool :=
  s.cfg.lowByteHoldsBus && s.shiftEn && decide (s.sdaDir = .output) && decide (s.pstate = .requestReplyForSend) &&
    decide (0 < s.cnt) && s.ackedLow

/-- `Idle`, the idle-listening configuration (10_state.md R26). -/
def idle (s : State) : Bool := !s.shiftEn && s.startEn && decide (s.sdaDir = .input)

/-- The resolved data line while the master puts `m` on it: wired-AND (40_shift_unit_and_bus.md R87). -/
def sdaLevel (m : Bool) (s : State) : Bool := m && slaveSda s

/-- The resolved clock line while the master puts `c` on it (40_shift_unit_and_bus.md R87). DESIGN CHOICE (log 26),
unsafe: a pending start holds the clock at once, as R87 and R89 have it, where the example of R86 has a moment of a
genuine start in which the clock still reads high. -/
def sclLevel (c : Bool) (s : State) : Bool := c && !hold s

/-- The Start Detector is enabled (41_start_detector.md R100). -/
def startReady (s : State) : Bool := s.startPend && s.startEn && !s.irqInh

/-- The Shift Engine is enabled (42_shift_engine.md R110); a pending start goes first (60_exceptions.md R166). -/
def shiftReady (s : State) : Bool := s.shiftPend && s.shiftEn && !s.startPend && !s.irqInh

/-- The Shift Engine's action for `p` is the enabled service (dispatch key `1sss`, 30_encoding.md R70). -/
def actionReady (p : PState) (s : State) : Bool := shiftReady s && decide (s.pstate = p)

/-- The service operation of a value of `PSTATE` (30_encoding.md R70). -/
def PState.action : PState → Instr
  | .checkAddress => .checkAddress
  | .sendData => .sendData
  | .requestReplyForSend => .requestReplyForSend
  | .checkReplyForSend => .checkReplyForSend
  | .requestData => .requestData
  | .getDataAndAck => .getDataAndAck

/-- The service that is enabled, if one is: the dispatch key `t s2 s1 s0` of 30_encoding.md R70, the start trigger
first (60_exceptions.md R166). Entry saves nothing (R168). -/
def enabledService (s : State) : Option Instr :=
  if startReady s then some (.svcStart s.pstate.code)
  else if shiftReady s then some s.pstate.action
  else none

/-- SR_WRITE's effect (40_shift_unit_and_bus.md R82). -/
def setSr (b : Byte) (s : State) : State := { s with sr := b }

/-- SDA_DIR_SET's effect (R83). -/
def setSdaDir (d : Dir) (s : State) : State := { s with sdaDir := d }

/-- ARM's effect: start the count of a group and discard a pending completion (R84). -/
def armGroup (n : Nat) (s : State) : State := { s with cnt := n, shiftPend := false }

/-- TRIG_SET's effect (R85). -/
def setTriggers (se he : Bool) (s : State) : State := { s with startEn := se, shiftEn := he }

/-- `PSTATE <- p`, the block's transfer of control (10_state.md R32). -/
def setPstate (p : PState) (s : State) : State := { s with pstate := p }

/-- `RXCUR <- n` (10_state.md R12). -/
def setRxcur (n : Nat) (s : State) : State := { s with rxcur := n }

/-- `TXCUR <- n` (10_state.md R14). -/
def setTxcur (n : Nat) (s : State) : State := { s with txcur := n }

/-- Remember of a byte that is loaded to be sent whether the master's ACK asked for it, as `PSTATE` tells, and whether
it begins with a 0 (70_reset_and_hazards.md R189, log 25). -/
def noteSent (b : Byte) (s : State) : State :=
  { s with ackedLow := decide (s.pstate = .checkReplyForSend) && !b.getLsbD 7 }

/-- Store a byte at the Rx cursor and advance the cursor (42_shift_engine.md R119). -/
def storeRx (v : Byte) (s : State) : State :=
  { s with rxbuf := Memory.write s.rxbuf s.rxcur v, rxcur := s.rxcur + 1 }

/-- Deliver a result to the collaborator; nothing else changes (20_memory.md R48, log 13). -/
def deliverHost (r : HostResult) (s : State) : State := { s with hostResult := some r }

/-- Deliver a result of a Shift Unit primitive; nothing else changes (log 13). -/
def deliverUnit (r : UnitResult) (s : State) : State := { s with unitResult := some r }

end Sys2Proof.Machine
end

