-- ==== Sys2Proof/Machine/Flags.lean ====
section
/-! DEFINITION. The two notification flags (10_state.md R16, R17): every operation that sets or clears one. -/

namespace Sys2Proof.Machine

/-- A byte is stored: `FRAME_STARTED` is set if it is the first of the transaction (`RXCUR = 0` at entry, D19),
`BYTE_RECEIVED` always (42_shift_engine.md R119). -/
def flagsOnStore (s : State) : State :=
  { s with frameStarted := s.frameStarted || decide (s.rxcur = 0), byteReceived := true }

/-- A byte is discarded: `BYTE_RECEIVED` is set only if `RX_FLAG_ON_DISCARD` (42_shift_engine.md R119, D20). -/
def flagsOnDiscard (s : State) : State :=
  { s with byteReceived := s.byteReceived || s.cfg.rxFlagOnDiscard }

/-- `FRAME_STARTED <- 0` (43_init_and_host_ops.md R147). -/
def clearFrameStarted (s : State) : State := { s with frameStarted := false }

/-- `BYTE_RECEIVED <- 0` (43_init_and_host_ops.md R148). -/
def clearByteReceived (s : State) : State := { s with byteReceived := false }

end Sys2Proof.Machine
end

