-- ==== Sys2Proof/Machine/HostOps.lean ====
section
/-! DEFINITION. Class HOST: initialisation and the collaborator's operations (43_init_and_host_ops.md R140 to R150),
each enabled in every state (R153). -/

namespace Sys2Proof.Machine

/-- INIT's effect (R140): both lines released, no group armed, only the start trigger enabled. -/
def initialise (s : State) : State :=
  { setTriggers true false (armGroup 0 (setSdaDir .input s)) with startPend := false }

/-- INIT (R140). -/
def execInit (s : State) : Host.Outcome State Fault Refusal := .next (initialise s)

/-- SET_ADDRESS (R141): every 7-bit value is accepted. -/
def execSetAddress (a : Addr7) (s : State) : Host.Outcome State Fault Refusal :=
  .next { s with addr := addrReg a }

/-- RX_READ (R142): an index at or above `C_rx` is refused. -/
def execRxRead (i : Nat) (s : State) : Host.Outcome State Fault Refusal :=
  if i < s.cfg.cRx then .next (deliverHost (.byte (Memory.read s.rxbuf i)) s) else .refused .indexOutOfRange

/-- RXCUR_READ (R143). -/
def execRxcurRead (s : State) : Host.Outcome State Fault Refusal := .next (deliverHost (.cursor s.rxcur) s)

/-- TX_WRITE (R144): an index at or above `C_tx` is refused. -/
def execTxWrite (i : Nat) (b : Byte) (s : State) : Host.Outcome State Fault Refusal :=
  if i < s.cfg.cTx then .next { s with txbuf := Memory.write s.txbuf i b } else .refused .indexOutOfRange

/-- TXCUR_RESET (R145). -/
def execTxcurReset (s : State) : Host.Outcome State Fault Refusal := .next (setTxcur 0 s)

/-- FLAG_READ (R146): reading does not clear. -/
def execFlagRead (s : State) : Host.Outcome State Fault Refusal :=
  .next (deliverHost (.flags s.frameStarted s.byteReceived) s)

/-- CLR_FRAME_STARTED (R147). -/
def execClrFrameStarted (s : State) : Host.Outcome State Fault Refusal := .next (clearFrameStarted s)

/-- CLR_BYTE_RECEIVED (R148). -/
def execClrByteReceived (s : State) : Host.Outcome State Fault Refusal := .next (clearByteReceived s)

/-- IRQ_DISABLE (R149). -/
def execIrqDisable (s : State) : Host.Outcome State Fault Refusal := .next { s with irqInh := true }

/-- IRQ_ENABLE (R150). -/
def execIrqEnable (s : State) : Host.Outcome State Fault Refusal := .next { s with irqInh := false }

end Sys2Proof.Machine
end

