-- ==== Sys2Proof/Machine/Periph.lean ====
section
/-! DEFINITION. Class PERIPH: the Shift Unit primitives (40_shift_unit_and_bus.md R80 to R86). Presented
by the CORE as inputs of their own they run in any state; no other agent has them (log 14). -/

namespace Sys2Proof.Machine

/-- SR_READ (R81). -/
def execSrRead (s : State) : Host.Outcome State Fault Refusal := .next (deliverUnit (.byte s.sr) s)

/-- SR_WRITE (R82). -/
def execSrWrite (b : Byte) (s : State) : Host.Outcome State Fault Refusal := .next (setSr b s)

/-- SDA_DIR_SET (R83). -/
def execSdaDirSet (d : Dir) (s : State) : Host.Outcome State Fault Refusal := .next (setSdaDir d s)

/-- ARM (R84): a length other than 1 and 8 is refused. -/
def execArm (n : Nat) (s : State) : Host.Outcome State Fault Refusal :=
  if n = 1 ∨ n = 8 then .next (armGroup n s) else .refused .armLength

/-- TRIG_SET (R85): the two enables are independent. -/
def execTrigSet (se he : Bool) (s : State) : Host.Outcome State Fault Refusal := .next (setTriggers se he s)

/-- The resolved lines while the master puts `m` on the data line and `c` on the clock line (R86, R87). -/
def readLines (m c : Bool) (s : State) : UnitResult := .lines (sdaLevel m s) (sclLevel c s)

/-- LINE_READ (R86, R87); the master's levels are free values (log 12). While a start is pending the clock reads low,
so R86's example `(0, 1)` is read only with no trigger pending (DESIGN CHOICE, log 26). -/
def execLineRead (s : State) : Host.Outcome State Fault Refusal :=
  .next { deliverUnit (readLines (Config.masterSda s.freeIdx) (Config.masterScl s.freeIdx) s) s with
    freeIdx := s.freeIdx + 1 }

end Sys2Proof.Machine
end

