-- ==== Sys2Proof/Machine/Bus.lean ====
section
/-! DEFINITION. Class BUS: the master's bus events (40_shift_unit_and_bus.md R90 to R92; log 24). -/

namespace Sys2Proof.Machine

/-- BUS_START's effect (R90): a start becomes pending if its trigger is enabled. -/
def busStart (s : State) : State := { s with startPend := s.startPend || s.startEn }

/-- BUS_BIT's effect (R91): one bit slot in which the master puts `m` on the data line. Every read is of the state
at entry. -/
def busBit (m : Bool) (s : State) : State :=
  { s with
    sr := shiftIn s.sr (sdaLevel m s)
    cnt := s.cnt - 1
    shiftPend := s.shiftPend || (decide (s.cnt = 1) && s.shiftEn)
    busResult := some (sdaLevel m s) }

/-- The master can make the data line move while the clock is high: the clock is not held, the slave does not hold
the data line low (R90, R92), and no byte that the master asked for with an ACK and that began with a 0 is still being
sent (R189, U10; DESIGN CHOICE, log 25: a parameter of the configuration says whether this last condition applies);
otherwise the reason why not. -/
def conditionBlocked (s : State) : Option Refusal :=
  if hold s then some .clockHeld else if slaveSda s && !byteHeld s then none else some .dataLineLow

/-- BUS_START (R90). -/
def execBusStart (s : State) : Host.Outcome State Fault Refusal :=
  match conditionBlocked s with
  | some r => .refused r
  | none => .next (busStart s)

/-- BUS_BIT (R91). -/
def execBusBit (m : Bool) (s : State) : Host.Outcome State Fault Refusal :=
  if hold s then .refused .clockHeld else .next (busBit m s)

/-- BUS_STOP (R92): no state of the block changes. -/
def execBusStop (s : State) : Host.Outcome State Fault Refusal :=
  match conditionBlocked s with
  | some r => .refused r
  | none => .next s

end Sys2Proof.Machine
end

