-- ==== Sys2Proof/Machine/Micro.lean ====
section
/-! DEFINITION. Class MICRO: the three micro-operations the Shift Engine's actions share (42_shift_engine.md
R111 to R113). Presented by the CORE as inputs of their own they run in any state; no other agent has them (log 14). -/

namespace Sys2Proof.Machine

/-- ACK_ARM (R111): the slave drives the data line low for one slot. -/
def ackArm (s : State) : State := armGroup 1 (setSdaDir .output (setSr 0x00 s))

/-- FORCE_IDLE (R112): the only path back to the idle-listening configuration. -/
def forceIdle (s : State) : State :=
  { setSdaDir .input (setTriggers true false s) with shiftPend := false }

/-- The first branch of LOAD_AND_ARM (R113): arm the group that sends `b`. -/
def sendByte (b : Byte) (s : State) : State :=
  setPstate .requestReplyForSend (armGroup 8 (setSdaDir .output (setSr b (noteSent b s))))

/-- LOAD_AND_ARM (R113): send the next byte of TxBuffer, or force idle when there is none. -/
def loadAndArm (s : State) : State :=
  if s.txcur < s.cfg.cTx then
    sendByte (Memory.read s.txbuf s.txcur) s
  else forceIdle s

/-- Row ACK_ARM (R111). -/
def execAckArm (s : State) : Host.Outcome State Fault Refusal := .next (ackArm s)

/-- Row FORCE_IDLE (R112). -/
def execForceIdle (s : State) : Host.Outcome State Fault Refusal := .next (forceIdle s)

/-- Row LOAD_AND_ARM (R113). -/
def execLoadAndArm (s : State) : Host.Outcome State Fault Refusal := .next (loadAndArm s)

end Sys2Proof.Machine
end

