-- ==== Sys2Proof/Machine/Services.lean ====
section
/-! DEFINITION. Class SVC: the Start Detector (41_start_detector.md R101) and the six actions of the Shift Engine
(42_shift_engine.md R114 to R119). An effect is a function of the state, with `v` the value of `SR` the service
samples (R110); a row's meaning is the effect where the service is enabled (log 15). -/

namespace Sys2Proof.Machine

/-- The Start Detector's effect (R101). The busy-wait of R102 changes no state (log 17). -/
def startDetector (s : State) : State :=
  { setPstate .checkAddress (setTriggers true true (armGroup 8 (setSdaDir .input s))) with startPend := false }

/-- CHECK_ADDRESS (R114). -/
def checkAddress (v : Byte) (s : State) : State :=
  if !addrMatch v s.addr then forceIdle s
  else if !lowBit v then setPstate .requestData (setRxcur 0 (ackArm s))
  else setPstate .sendData (setTxcur 0 (ackArm s))

/-- SEND_DATA (R115). -/
def sendData (s : State) : State := loadAndArm s

/-- REQUEST_REPLY_FOR_SEND (R116): the Tx cursor advances here (log 19). -/
def requestReplyForSend (s : State) : State :=
  setPstate .checkReplyForSend (armGroup 1 (setSdaDir .input (setTxcur (s.txcur + 1) s)))

/-- CHECK_REPLY_FOR_SEND (R117): the ACK branch performs SEND_DATA's action in the same service. -/
def checkReplyForSend (v : Byte) (s : State) : State :=
  if lowBit v then forceIdle s else loadAndArm s

/-- REQUEST_DATA (R118). -/
def requestData (s : State) : State :=
  setPstate .getDataAndAck (armGroup 8 (setSdaDir .input s))

/-- Keep a received byte if there is room, and the flags with it (R119). -/
def acceptByte (v : Byte) (s : State) : State :=
  if s.rxcur < s.cfg.cRx then storeRx v (flagsOnStore s) else flagsOnDiscard s

/-- GET_DATA_AND_ACK (R119): the byte is acknowledged whether or not it is stored. -/
def getDataAndAck (v : Byte) (s : State) : State :=
  setPstate .requestData (ackArm (acceptByte v s))

/-- The Shift Engine's action at `SHIFT_COMPLETE(v)`, by the value of `PSTATE` at entry (R110; the event level of
00_scope.md R3). -/
def shiftComplete (v : Byte) (s : State) : State :=
  match s.pstate with
  | .checkAddress => checkAddress v s
  | .sendData => sendData s
  | .requestReplyForSend => requestReplyForSend s
  | .checkReplyForSend => checkReplyForSend v s
  | .requestData => requestData s
  | .getDataAndAck => getDataAndAck v s

/-- Run the enabled service, if there is one; the start trigger goes first (60_exceptions.md R166). -/
def serve (s : State) : State :=
  if startReady s then startDetector s
  else if shiftReady s then shiftComplete s.sr s
  else s

/-- Row SVC_START (R101), enabled as R100 says; the PSTATE code in the key is ignored (R70). -/
def execSvcStart (_sss : BitVec 3) (s : State) : Host.Outcome State Fault Refusal :=
  if startReady s then .next (startDetector s) else .refused .serviceNotEnabled

/-- Row CHECK_ADDRESS (R114), enabled as R110 says. -/
def execCheckAddress (s : State) : Host.Outcome State Fault Refusal :=
  if actionReady .checkAddress s then .next (checkAddress s.sr s) else .refused .serviceNotEnabled

/-- Row SEND_DATA (R115), enabled as R110 says. -/
def execSendData (s : State) : Host.Outcome State Fault Refusal :=
  if actionReady .sendData s then .next (sendData s) else .refused .serviceNotEnabled

/-- Row REQUEST_REPLY_FOR_SEND (R116), enabled as R110 says. -/
def execRequestReplyForSend (s : State) : Host.Outcome State Fault Refusal :=
  if actionReady .requestReplyForSend s then .next (requestReplyForSend s) else .refused .serviceNotEnabled

/-- Row CHECK_REPLY_FOR_SEND (R117), enabled as R110 says. -/
def execCheckReplyForSend (s : State) : Host.Outcome State Fault Refusal :=
  if actionReady .checkReplyForSend s then .next (checkReplyForSend s.sr s) else .refused .serviceNotEnabled

/-- Row REQUEST_DATA (R118), enabled as R110 says. -/
def execRequestData (s : State) : Host.Outcome State Fault Refusal :=
  if actionReady .requestData s then .next (requestData s) else .refused .serviceNotEnabled

/-- Row GET_DATA_AND_ACK (R119), enabled as R110 says. -/
def execGetDataAndAck (s : State) : Host.Outcome State Fault Refusal :=
  if actionReady .getDataAndAck s then .next (getDataAndAck s.sr s) else .refused .serviceNotEnabled

end Sys2Proof.Machine
end

