-- ==== Sys2Proof/Machine/Wire.lean ====
section
/-! DEFINITION. The wire formats ADDRBYTE, ACKBIT and DATABYTE (30_encoding.md R61, R65, R66) as operations: the
master's side of one shift group, with the enabled services run after every slot as the trace notation has it
(30_encoding.md R73, log 11). -/

namespace Sys2Proof.Machine

/-- One bit slot and the service it may enable; none while the clock is held (R91, R95). -/
def slot (m : Bool) (s : State) : Option State :=
  if hold s then none else some (serve (busBit m s))

/-- Bit slots in order. -/
def slots : List Bool → State → Option State
  | [], s => some s
  | m :: ms, s =>
    match slot m s with
    | some t => slots ms t
    | none => none

/-- A shift group on the wire: the state after its slots, or a held clock. -/
def transfer (ms : List Bool) (s : State) : Host.Outcome State Fault Refusal :=
  match slots ms s with
  | some t => .next t
  | none => .refused .clockHeld

/-- SLA+W (R61, R63, R114): the master sends the address byte of a write transaction. -/
def execSlaW (a : Addr7) (s : State) : Host.Outcome State Fault Refusal := transfer (wireBits (addrByte a false)) s

/-- SLA+R (R61, R63, R114): the master sends the address byte of a read transaction. -/
def execSlaR (a : Addr7) (s : State) : Host.Outcome State Fault Refusal := transfer (wireBits (addrByte a true)) s

/-- ACK (R65): the data line is low in one slot, whoever drives it. -/
def execAck (s : State) : Host.Outcome State Fault Refusal := transfer [false] s

/-- NACK (R65): the master leaves the data line released for one slot; the slave drives no NACK. -/
def execNack (s : State) : Host.Outcome State Fault Refusal := transfer [true] s

/-- DATA (R66): eight slots, bit 7 first. While the slave sends, the released byte `0xFF` is the master's read. -/
def execData (d : Byte) (s : State) : Host.Outcome State Fault Refusal := transfer (wireBits d) s

end Sys2Proof.Machine
end

