-- ==== Sys2Proof/Machine/Dispatch.lean ====
section
/-! DEFINITION. One arm per operation: the meaning of each row of spec/opcode_table.json. -/

namespace Sys2Proof.Machine

def exec (i : Instr) (s : State) : Host.Outcome State Fault Refusal :=
  match i with
  | .slaW a => Sys2Proof.Machine.execSlaW a s
  | .slaR a => Sys2Proof.Machine.execSlaR a s
  | .ack => Sys2Proof.Machine.execAck s
  | .nack => Sys2Proof.Machine.execNack s
  | .data d => Sys2Proof.Machine.execData d s
  | .svcStart sss => Sys2Proof.Machine.execSvcStart sss s
  | .checkAddress => Sys2Proof.Machine.execCheckAddress s
  | .sendData => Sys2Proof.Machine.execSendData s
  | .requestReplyForSend => Sys2Proof.Machine.execRequestReplyForSend s
  | .checkReplyForSend => Sys2Proof.Machine.execCheckReplyForSend s
  | .requestData => Sys2Proof.Machine.execRequestData s
  | .getDataAndAck => Sys2Proof.Machine.execGetDataAndAck s
  | .ackArm => Sys2Proof.Machine.execAckArm s
  | .forceIdle => Sys2Proof.Machine.execForceIdle s
  | .loadAndArm => Sys2Proof.Machine.execLoadAndArm s
  | .init => Sys2Proof.Machine.execInit s
  | .setAddress a => Sys2Proof.Machine.execSetAddress a s
  | .rxRead k => Sys2Proof.Machine.execRxRead k s
  | .rxcurRead => Sys2Proof.Machine.execRxcurRead s
  | .txWrite k b => Sys2Proof.Machine.execTxWrite k b s
  | .txcurReset => Sys2Proof.Machine.execTxcurReset s
  | .flagRead => Sys2Proof.Machine.execFlagRead s
  | .clrFrameStarted => Sys2Proof.Machine.execClrFrameStarted s
  | .clrByteReceived => Sys2Proof.Machine.execClrByteReceived s
  | .irqDisable => Sys2Proof.Machine.execIrqDisable s
  | .irqEnable => Sys2Proof.Machine.execIrqEnable s
  | .srRead => Sys2Proof.Machine.execSrRead s
  | .srWrite b => Sys2Proof.Machine.execSrWrite b s
  | .sdaDirSet d => Sys2Proof.Machine.execSdaDirSet d s
  | .arm n => Sys2Proof.Machine.execArm n s
  | .trigSet se he => Sys2Proof.Machine.execTrigSet se he s
  | .lineRead => Sys2Proof.Machine.execLineRead s
  | .busStart => Sys2Proof.Machine.execBusStart s
  | .busBit m => Sys2Proof.Machine.execBusBit m s
  | .busStop => Sys2Proof.Machine.execBusStop s

end Sys2Proof.Machine
end

