-- ==== Sys2Proof/Machine/Schedule.lean ====
section
/-! DEFINITION. Which agent takes the next step (20_memory.md R49, 60_exceptions.md R172; log 9, log 10). -/

namespace Sys2Proof.Machine

/-- The refusals that are the spec's outcome "not enabled": the agent waits (00_scope.md R8). -/
def Refusal.waits : Refusal → Bool
  | .serviceNotEnabled => true
  | .clockHeld => true
  | .dataLineLow => true
  | _ => false

/-- The collaborator's first input of a queue, and the queue without it. -/
def takeHost : List Input → Option (Input × List Input)
  | [] => none
  | it :: rest =>
    if it.agent = .collaborator then some (it, rest)
    else (takeHost rest).map fun p => (p.1, it :: p.2)

/-- Run one input: bytes that are no operation are refused (30_encoding.md R72 (8)), and so is an operation that its
agent does not have (43_init_and_host_ops.md R151, 40_shift_unit_and_bus.md R80). -/
def runInput (it : Input) (s : State) : Host.Outcome State Fault Refusal :=
  match decodeWhole it.bytes with
  | .error e => .refused (.undecodable e)
  | .ok i => if i.agent = it.agent then exec i s else .refused .notOffered

/-- The step of the block alone: the enabled service (60_exceptions.md R172), or nothing happens. -/
def stepCore (s : State) : Host.Outcome State Fault Refusal :=
  match enabledService s with
  | some svc => exec svc s
  | none => .next s

/-- The step while the agent of the first input waits: the enabled service, else the collaborator's next
input (40_shift_unit_and_bus.md R95), else nothing happens. -/
def stepWaiting (it : Input) (rest : List Input) (s : State) : Host.Outcome State Fault Refusal :=
  match enabledService s with
  | some svc => exec svc s
  | none =>
    match takeHost rest with
    | some (jt, rest') => runInput jt { s with inputs := it :: rest' }
    | none => .next s

/-- Take the first input, or let its agent wait. -/
def stepInput (it : Input) (rest : List Input) (s : State) : Host.Outcome State Fault Refusal :=
  match runInput it { s with inputs := rest } with
  | .next t => .next t
  | .fault f => .fault f
  | .refused r => if r.waits then stepWaiting it rest s else .refused r

/-- The next step: an enabled service pre-empts every input that is not marked `early` (60_exceptions.md R172);
otherwise the first input is taken; with no input the block is alone. -/
def stepNext (s : State) : Host.Outcome State Fault Refusal :=
  match s.inputs with
  | [] => stepCore s
  | it :: rest =>
    if (enabledService s).isSome && !it.early then stepCore s
    else stepInput it rest s

/-- The state in which the trigger of a service is pending and enabled, so that the block serves it: where the
block fetches an operation of class SVC from (30_encoding.md R70). -/
def withTrigger (i : Instr) (s : State) : State :=
  let shift := { s with startPend := false, shiftPend := true, shiftEn := true, irqInh := false }
  match i with
  | .svcStart _ => { s with startPend := true, startEn := true, irqInh := false }
  | .checkAddress => { shift with pstate := .checkAddress }
  | .sendData => { shift with pstate := .sendData }
  | .requestReplyForSend => { shift with pstate := .requestReplyForSend }
  | .checkReplyForSend => { shift with pstate := .checkReplyForSend }
  | .requestData => { shift with pstate := .requestData }
  | .getDataAndAck => { shift with pstate := .getDataAndAck }
  | .slaW _ | .slaR _ | .ack | .nack | .data _ | .ackArm | .forceIdle | .loadAndArm | .init | .setAddress _
  | .rxRead _ | .rxcurRead | .txWrite _ _ | .txcurReset | .flagRead | .clrFrameStarted | .clrByteReceived
  | .irqDisable | .irqEnable | .srRead | .srWrite _ | .sdaDirSet _ | .arm _ | .trigSet _ _ | .lineRead
  | .busStart | .busBit _ | .busStop => s

/-- The agent that presents a table word: the one that takes its operation, and the CORE for a word that is none. -/
def wordAgent : Option Instr → Agent
  | some i => i.agent
  | none => .core

/-- The state with a table word as the first input, admitted before a pending service, and its trigger pending if
it is a service. -/
def placeWord (s : State) (nbits w : Nat) : State :=
  let i := decodeTableWord nbits w
  let queued := { s with inputs := { bytes := tableBytes nbits w, agent := wordAgent i, early := true } :: s.inputs }
  match i with
  | some i => withTrigger i queued
  | none => queued

end Sys2Proof.Machine
end

