-- ==== Sys2Proof/Machine/Step.lean ====
section
/-! DEFINITION. One step of the machine. -/

namespace Sys2Proof.Machine

/-- One step: Machine/Schedule.lean says which agent takes it. -/
def step (s : State) : Host.Outcome State Fault Refusal := stepNext s

/-- `s` with a table word where `step` fetches its next operation (log 8, log 9). -/
def State.withFetchWord (s : State) (nbits w : Nat) : State := placeWord s nbits w

end Sys2Proof.Machine
end

