-- ==== Sys2Proof/Safety.lean ====
section
/-! DEFINITION. What claims about runs are stated in: inputs of the environment, the invariant of 10_state.md R27,
reachable states, sequences of operations, and what the bus master observes. -/

namespace Sys2Proof.Machine

/-- An input of the environment: presented by the master or the collaborator. Those of the CORE are the model's own
way to run one of its operations alone (log 14). -/
def Input.environment (it : Input) : Bool := it.agent != .core

/-- The invariants of 10_state.md R27 and 60_exceptions.md R166, made inductive. -/
structure Inv (s : State) : Prop where
  /-- `C_rx >= 1` (00_scope.md R7). -/
  rxCapacity : 1 ≤ s.cfg.cRx
  /-- `C_tx >= 1` (00_scope.md R7). -/
  txCapacity : 1 ≤ s.cfg.cTx
  /-- R27 (1). -/
  rxcurBound : s.rxcur ≤ s.cfg.cRx
  /-- R27 (2). -/
  txcurBound : s.txcur ≤ s.cfg.cTx
  /-- Why R27 (2) is kept: a send group is armed only with a byte left to send. -/
  sendingBound : s.pstate = .requestReplyForSend → s.txcur < s.cfg.cTx
  /-- `CNT` is in `0 .. 8` (R19). -/
  cntBound : s.cnt ≤ 8
  /-- R27 (4). -/
  disabledUnarmed : s.shiftEn = false → s.cnt = 0 ∧ s.shiftPend = false
  /-- The shift trigger is enabled only with the start trigger (R85). -/
  enabledStart : s.shiftEn = true → s.startEn = true
  /-- A start is pending only where its trigger is enabled (R23). -/
  pendingStart : s.startPend = true → s.startEn = true
  /-- The two triggers are never pending together (60_exceptions.md R166). -/
  onePending : s.startPend = true → s.shiftPend = false
  /-- A pending completion leaves no group armed (R24). -/
  pendingUnarmed : s.shiftPend = true → s.cnt = 0
  /-- R27 (6): the slave drives the data line only while an ACK group or a send group is armed or pending. -/
  driving : s.sdaDir = .output →
    s.shiftEn = true ∧ (0 < s.cnt ∨ s.shiftPend = true) ∧
      (s.pstate = .requestData ∨ s.pstate = .sendData ∨ s.pstate = .requestReplyForSend)
  /-- RxBuffer keeps its canonical form. -/
  rxbufForm : Memory.wf s.rxbuf = true
  /-- TxBuffer keeps its canonical form. -/
  txbufForm : Memory.wf s.txbuf = true
  /-- RxBuffer has cells `0 .. C_rx-1` only (20_memory.md R40). -/
  rxbufWithin : Memory.within s.cfg.cRx s.rxbuf = true
  /-- TxBuffer has cells `0 .. C_tx-1` only (20_memory.md R40). -/
  txbufWithin : Memory.within s.cfg.cTx s.txbuf = true
  /-- Only the environment's inputs wait in the queue. -/
  inputsEnvironment : ∀ it ∈ s.inputs, Input.environment it = true

/-- The power-on values of the unspecified elements that a machine with configuration `cfg` can have: both buffers
in canonical form, with cells below the capacities only. -/
def PowerOn.valid (cfg : Config) (u : PowerOn) : Bool :=
  Memory.wf u.rxbuf && Memory.wf u.txbuf && Memory.within cfg.cRx u.rxbuf && Memory.within cfg.cTx u.txbuf

/-- The states of the runs of the machine: from power-on with any legal configuration and any unspecified values,
by steps, the master and the collaborator giving their inputs at any time (70_reset_and_hazards.md R197, log 9). -/
inductive Reachable : State → Prop where
  | powerOn (cfg : Config) (u : PowerOn) (hr : 1 ≤ cfg.cRx) (ht : 1 ≤ cfg.cTx) (hu : u.valid cfg = true) :
      Reachable (State.resetWith cfg u)
  | load (s : State) (its : List Input) (h : Reachable s) (hi : ∀ it ∈ its, Input.environment it = true) :
      Reachable { s with inputs := its }
  | next (s t : State) (h : Reachable s) (hs : step s = .next t) : Reachable t

/-- Operations one after another, ending at the first that has no effect. -/
def runOps : List Instr → State → Host.Outcome State Fault Refusal
  | [], s => .next s
  | i :: is, s =>
    match exec i s with
    | .next t => runOps is t
    | .fault f => .fault f
    | .refused r => .refused r

/-- Bit slots in order, the enabled services run after each, with the level the master samples in each
(40_shift_unit_and_bus.md R91, R96). -/
def observe : List Bool → State → Option (State × List Bool)
  | [], s => some (s, [])
  | m :: ms, s =>
    match slot m s with
    | some t => (observe ms t).map fun p => (p.1, sdaLevel m s :: p.2)
    | none => none

/-- The block can take part in a transaction: its start trigger is enabled, nothing is pending, services are not
inhibited, it leaves the data line free and sends no byte that keeps a start away (70_reset_and_hazards.md R183, R189,
R190). -/
structure Listening (s : State) : Prop where
  startEnabled : s.startEn = true
  noStart : s.startPend = false
  noCompletion : s.shiftPend = false
  uninhibited : s.irqInh = false
  lineFree : slaveSda s = true
  noByteHeld : byteHeld s = false

/-- An 8-bit group into the block is armed: eight slots of a byte from the master come next. -/
structure Receiving (s : State) : Prop where
  count : s.cnt = 8
  direction : s.sdaDir = .input
  enabled : s.shiftEn = true
  noStart : s.startPend = false
  noCompletion : s.shiftPend = false
  uninhibited : s.irqInh = false

/-- An 8-bit group out of the block is armed: eight slots of a byte to the master come next. -/
structure Sending (s : State) : Prop where
  count : s.cnt = 8
  direction : s.sdaDir = .output
  enabled : s.shiftEn = true
  noStart : s.startPend = false
  noCompletion : s.shiftPend = false
  uninhibited : s.irqInh = false
  phase : s.pstate = .requestReplyForSend

/-- Nothing is left to do: no input and no enabled service (70_reset_and_hazards.md R197). -/
def quiescent (s : State) : Bool := s.inputs.isEmpty && (enabledService s).isNone

end Sys2Proof.Machine
end

