-- ==== Sys2Proof/Certificates/Slice0/Obligations.lean ====
section
/-! DEFINITION. The statements about the machine, each with the rules of spec/ it comes from. A docstring that names
a decision D<n> (92_eei_decisions.md) or a log entry says that the statement rests on a choice of the spec or of the
model, not on the spec's source. -/

open Sys2Proof Sys2Proof.Machine

/-! ### Encoding -/

/-- Every well-formed operation is decoded from its encoding, whatever bytes follow (30_encoding.md, log 7). -/
def Obligations.DecodeOfEncodeIsTheOperation : Prop :=
  ∀ (i : Instr) (rest : List Byte), i.wellFormed = true → decode (encode i ++ rest) = .ok (i, rest)

/-- Only one encoding decodes to an operation: no byte of an item is ignored (30_encoding.md, log 7). -/
def Obligations.EncodeOfDecodeIsTheBytes : Prop :=
  ∀ (bs rest : List Byte) (i : Instr), decode bs = .ok (i, rest) → encode i ++ rest = bs

/-- A few words of the spec's tables (30_encoding.md R61, R65, R66, R70, R71) decode to their operations: the tag in
the second byte is the model's (log 7). -/
def Obligations.SpecWordsDecode : Prop :=
  decodeWhole [0b01010100, 1, 0, 0, 0, 0, 0] = .ok (.slaW 0x2A) ∧
  decodeWhole [0b01010101, 1, 0, 0, 0, 0, 0] = .ok (.slaR 0x2A) ∧
  decodeWhole [0b0, 2, 0, 0, 0, 0, 0] = .ok .ack ∧
  decodeWhole [0b1, 2, 0, 0, 0, 0, 0] = .ok .nack ∧
  decodeWhole [0b00010001, 3, 0, 0, 0, 0, 0] = .ok (.data 0x11) ∧
  decodeWhole [0b0101, 4, 0, 0, 0, 0, 0] = .ok (.svcStart 5) ∧
  decodeWhole [0b1101, 4, 0, 0, 0, 0, 0] = .ok .getDataAndAck ∧
  decodeWhole [0b0100, 0, 0xA1, 2, 0, 0, 0] = .ok (.txWrite 2 0xA1) ∧
  decodeWhole [0b1011, 0, 0, 0, 0, 0, 0] = .error .unassignedCode ∧
  decodeWhole [0b011, 6, 8, 0, 0, 0, 0] = .ok (.arm 8) ∧
  decodeWhole [0b01, 7, 1, 0, 0, 0, 0] = .ok (.busBit true) ∧
  decodeWhole [0b11, 7, 0, 0, 0, 0, 0] = .error .unassignedCode

/-! ### The step -/

/-- A step takes the first input: where its bytes decode to an operation `i` of the agent that presents it, and no
service goes first (none is enabled, or the input is admitted before one), the step is `exec i` on the state without
that input, for a next state and for a refusal that is no wait (20_memory.md R49, log 9). -/
def Obligations.StepRunsDecodedInput : Prop :=
  ∀ (s : State) (it : Input) (rest : List Input) (i : Instr),
    s.inputs = it :: rest → decodeWhole it.bytes = .ok i → i.agent = it.agent →
    (it.early = true ∨ enabledService s = none) →
    (∀ t, exec i { s with inputs := rest } = .next t → step s = .next t) ∧
    (∀ r, exec i { s with inputs := rest } = .refused r → r.waits = false → step s = .refused r)

/-- An enabled service goes before an input that is not marked early, and before no input at all; the Start Detector
goes first when both triggers are pending (60_exceptions.md, D29; log 9). -/
def Obligations.StepServesEnabledTrigger : Prop :=
  ∀ s : State, (∀ it ∈ s.inputs.head?, it.early = false) →
    (s.startPend = true → s.startEn = true → s.irqInh = false → step s = exec (.svcStart s.pstate.code) s) ∧
    (s.shiftPend = true → s.shiftEn = true → s.startPend = false → s.irqInh = false →
      step s = exec s.pstate.action s)

/-- While the agent of the first input waits, the enabled service runs, else the collaborator's next input is
taken past it, else nothing happens (40_shift_unit_and_bus.md, D11; log 10). -/
def Obligations.StepLetsOthersPassAWaitingAgent : Prop :=
  ∀ (s : State) (it : Input) (rest : List Input) (i : Instr) (r : Refusal),
    s.inputs = it :: rest → decodeWhole it.bytes = .ok i → i.agent = it.agent →
    exec i { s with inputs := rest } = .refused r → r.waits = true →
    (∀ svc, enabledService s = some svc → step s = exec svc s) ∧
    (enabledService s = none →
      (∀ jt j rest', takeHost rest = some (jt, rest') → decodeWhole jt.bytes = .ok j → j.agent = jt.agent →
        step s = exec j { s with inputs := it :: rest' }) ∧
      (takeHost rest = none → step s = .next s))

/-- An input whose bytes are no operation is refused, and so is one whose operation its agent does not have: the
collaborator is offered class HOST only, the master bus events and wire formats only, and no other agent has the
services, micro-operations and primitives (30_encoding.md, D32; 43_init_and_host_ops.md section 5,
40_shift_unit_and_bus.md section 1; the agent of an input is log 14). -/
def Obligations.StepRefusesUnassignedCode : Prop :=
  ∀ (s : State) (it : Input) (rest : List Input),
    s.inputs = it :: rest → (it.early = true ∨ enabledService s = none) →
    (∀ e, decodeWhole it.bytes = .error e → step s = .refused (.undecodable e)) ∧
    (∀ i, decodeWhole it.bytes = .ok i →
      (it.agent = .collaborator → i.opClass ≠ .host → step s = .refused .notOffered) ∧
      (it.agent = .master → i.opClass ≠ .bus → i.opClass ≠ .wire → step s = .refused .notOffered) ∧
      (it.agent ≠ .core → i.opClass = .svc ∨ i.opClass = .micro ∨ i.opClass = .periph →
        step s = .refused .notOffered))

/-- With no input and no enabled service a step changes nothing (70_reset_and_hazards.md, D42). -/
def Obligations.QuiescentStepChangesNothing : Prop :=
  ∀ s : State, quiescent s = true → step s = .next s

/-- Every service that runs releases the clock: afterwards nothing is pending, the start trigger is enabled, and
either a group of 1 or 8 slots is armed with the shift trigger enabled or the block is idle
(42_shift_engine.md, 60_exceptions.md; the states are those of D11, D14, D21). -/
def Obligations.ServiceReleasesTheClock : Prop :=
  ∀ (s t : State) (svc : Instr), Inv s → enabledService s = some svc → exec svc s = .next t →
    hold t = false ∧ t.startEn = true ∧
      ((t.shiftEn = true ∧ (t.cnt = 1 ∨ t.cnt = 8)) ∨ idle t = true)

/-! ### Class SVC -/

/-- SVC_START: where it is enabled it arms an 8-slot group into the block, enables both triggers, sets `PSTATE` to
CHECK_ADDRESS and drops both pending bits, whatever `PSTATE` was; nothing else changes (41_start_detector.md; the
direction is D13, the pending bits D14). -/
def Obligations.StartDetectorArmsAddressByte : Prop :=
  ∀ (sss : BitVec 3) (s : State), s.startPend = true → s.startEn = true → s.irqInh = false →
    exec (.svcStart sss) s = .next { s with
      sdaDir := .input, cnt := 8, shiftPend := false, startEn := true, shiftEn := true,
      pstate := .checkAddress, startPend := false }

/-- CHECK_ADDRESS: mismatch, write match and read match (42_shift_engine.md R114; the acknowledgement's form is D16, the
direction and pending bit of the idle configuration D21), every other element unchanged. -/
def Obligations.CheckAddressSelectsTransaction : Prop :=
  ∀ s : State, s.shiftPend = true → s.shiftEn = true → s.startPend = false → s.irqInh = false →
    s.pstate = .checkAddress →
    (s.sr.extractLsb' 1 7 ≠ s.addr.extractLsb' 1 7 →
      exec .checkAddress s = .next { s with
        shiftEn := false, startEn := true, sdaDir := .input, shiftPend := false }) ∧
    (s.sr.extractLsb' 1 7 = s.addr.extractLsb' 1 7 → s.sr.getLsbD 0 = false →
      exec .checkAddress s = .next { s with
        sr := 0x00, sdaDir := .output, cnt := 1, shiftPend := false, rxcur := 0, pstate := .requestData }) ∧
    (s.sr.extractLsb' 1 7 = s.addr.extractLsb' 1 7 → s.sr.getLsbD 0 = true →
      exec .checkAddress s = .next { s with
        sr := 0x00, sdaDir := .output, cnt := 1, shiftPend := false, txcur := 0, pstate := .sendData })

/-- SEND_DATA: LOAD_AND_ARM, both branches (42_shift_engine.md R115; the idle configuration is D21; that the byte is
marked as not acknowledged for is log 25), every other element unchanged. -/
def Obligations.SendDataLoadsOrIdles : Prop :=
  ∀ s : State, s.shiftPend = true → s.shiftEn = true → s.startPend = false → s.irqInh = false →
    s.pstate = .sendData →
    (s.txcur < s.cfg.cTx →
      exec .sendData s = .next { s with
        sr := Memory.read s.txbuf s.txcur, sdaDir := .output, cnt := 8, shiftPend := false,
        pstate := .requestReplyForSend, ackedLow := false }) ∧
    (s.cfg.cTx ≤ s.txcur →
      exec .sendData s = .next { s with
        shiftEn := false, startEn := true, sdaDir := .input, shiftPend := false })

/-- REQUEST_REPLY_FOR_SEND: the Tx cursor advances, the line is released and one slot is armed; nothing else changes
(42_shift_engine.md; the direction is D17, the place of the increment D18, log 19). -/
def Obligations.ReplyRequestAdvancesTxCursor : Prop :=
  ∀ s : State, s.shiftPend = true → s.shiftEn = true → s.startPend = false → s.irqInh = false →
    s.pstate = .requestReplyForSend →
    exec .requestReplyForSend s = .next { s with
      txcur := s.txcur + 1, sdaDir := .input, cnt := 1, shiftPend := false, pstate := .checkReplyForSend }

/-- CHECK_REPLY_FOR_SEND: NACK forces idle, ACK performs SEND_DATA's action in the same service (42_shift_engine.md
R117; the idle configuration is D21; that a 0 in the loaded byte's bit 7 is remembered is log 25), every other element
unchanged. -/
def Obligations.ReplyBitDecidesNextByte : Prop :=
  ∀ s : State, s.shiftPend = true → s.shiftEn = true → s.startPend = false → s.irqInh = false →
    s.pstate = .checkReplyForSend →
    (s.sr.getLsbD 0 = true →
      exec .checkReplyForSend s = .next { s with
        shiftEn := false, startEn := true, sdaDir := .input, shiftPend := false }) ∧
    (s.sr.getLsbD 0 = false → s.txcur < s.cfg.cTx →
      exec .checkReplyForSend s = .next { s with
        sr := Memory.read s.txbuf s.txcur, sdaDir := .output, cnt := 8, shiftPend := false,
        pstate := .requestReplyForSend,
        ackedLow := !(Memory.read s.txbuf s.txcur).getLsbD 7 }) ∧
    (s.sr.getLsbD 0 = false → s.cfg.cTx ≤ s.txcur →
      exec .checkReplyForSend s = .next { s with
        shiftEn := false, startEn := true, sdaDir := .input, shiftPend := false })

/-- REQUEST_DATA: the line is released and eight slots are armed (42_shift_engine.md R118), nothing else changes. -/
def Obligations.RequestDataArmsShiftIn : Prop :=
  ∀ s : State, s.shiftPend = true → s.shiftEn = true → s.startPend = false → s.irqInh = false →
    s.pstate = .requestData →
    exec .requestData s = .next { s with
      sdaDir := .input, cnt := 8, shiftPend := false, pstate := .getDataAndAck }

/-- GET_DATA_AND_ACK: with room the byte is stored at the cursor, the cursor advances and the flags are set; without
room only the parameter decides a flag; the byte is acknowledged in both cases (42_shift_engine.md; the first byte is
D19, the flags of a discarded byte D20, the ACK's form D16). -/
def Obligations.DataByteStoredOrDiscarded : Prop :=
  ∀ s : State, s.shiftPend = true → s.shiftEn = true → s.startPend = false → s.irqInh = false →
    s.pstate = .getDataAndAck →
    (s.rxcur < s.cfg.cRx →
      exec .getDataAndAck s = .next { s with
        rxbuf := Memory.write s.rxbuf s.rxcur s.sr, rxcur := s.rxcur + 1,
        frameStarted := s.frameStarted || (s.rxcur == 0), byteReceived := true,
        sr := 0x00, sdaDir := .output, cnt := 1, shiftPend := false, pstate := .requestData }) ∧
    (s.cfg.cRx ≤ s.rxcur →
      exec .getDataAndAck s = .next { s with
        byteReceived := s.byteReceived || s.cfg.rxFlagOnDiscard,
        sr := 0x00, sdaDir := .output, cnt := 1, shiftPend := false, pstate := .requestData })

/-- A service that is not enabled is not taken: inhibited, not pending, trigger disabled, or the Shift Engine while a
start is pending or `PSTATE` names another action (41_start_detector.md, 42_shift_engine.md, D11, D28, log 10). -/
def Obligations.ServiceNotEnabledIsNotTaken : Prop :=
  ∀ s : State,
    (s.startPend = false ∨ s.startEn = false ∨ s.irqInh = true →
      ∀ sss, exec (.svcStart sss) s = .refused .serviceNotEnabled) ∧
    ∀ p : PState,
      (s.shiftPend = false ∨ s.shiftEn = false ∨ s.startPend = true ∨ s.irqInh = true ∨ s.pstate ≠ p →
        exec p.action s = .refused .serviceNotEnabled)

/-! ### Class MICRO -/

/-- ACK_ARM, FORCE_IDLE and LOAD_AND_ARM (42_shift_engine.md section 3; their details are D16, D21; that a 0
in bit 7 of a byte the master acknowledged for is remembered is log 25), every other element unchanged. -/
def Obligations.MicroOperationEffects : Prop :=
  ∀ s : State,
    exec .ackArm s = .next { s with sr := 0x00, sdaDir := .output, cnt := 1, shiftPend := false } ∧
    exec .forceIdle s = .next { s with
      shiftEn := false, startEn := true, sdaDir := .input, shiftPend := false } ∧
    (s.txcur < s.cfg.cTx →
      exec .loadAndArm s = .next { s with
        sr := Memory.read s.txbuf s.txcur, sdaDir := .output, cnt := 8, shiftPend := false,
        pstate := .requestReplyForSend,
        ackedLow := decide (s.pstate = .checkReplyForSend) && !(Memory.read s.txbuf s.txcur).getLsbD 7 }) ∧
    (s.cfg.cTx ≤ s.txcur →
      exec .loadAndArm s = .next { s with
        shiftEn := false, startEn := true, sdaDir := .input, shiftPend := false })

/-- FORCE_IDLE is safe to re-enter: in every state of the invariant in which `Idle` holds it changes nothing
(42_shift_engine.md; "nothing" needs `SHIFT_PEND = 0`, which the invariant gives, log 21). -/
def Obligations.ForceIdleReentryChangesNothing : Prop :=
  ∀ s : State, Inv s → idle s = true → exec .forceIdle s = .next s

/-! ### Class HOST -/

/-- INIT: the six assignments, nothing else changes, `Idle` holds afterwards, and a second INIT changes nothing
(43_init_and_host_ops.md; the details are D25). -/
def Obligations.InitEntersIdle : Prop :=
  ∀ s : State, ∃ t, exec .init s = .next t ∧
    t = { s with sdaDir := .input, startPend := false, shiftPend := false, cnt := 0, startEn := true,
                 shiftEn := false } ∧
    idle t = true ∧ hold t = false ∧ exec .init t = .next t

/-- SET_ADDRESS stores the address shifted left by one in every state (43_init_and_host_ops.md; any time is D27). -/
def Obligations.SetAddressStoresShiftedAddress : Prop :=
  ∀ (a : Addr7) (s : State), exec (.setAddress a) s = .next { s with addr := BitVec.ofNat 8 (2 * a.toNat) }

/-- RX_READ delivers the cell, and refuses an index at or above the capacity (43_init_and_host_ops.md; D26; where the
result is held is log 13). -/
def Obligations.RxReadDeliversCell : Prop :=
  ∀ (i : Nat) (s : State),
    (i < s.cfg.cRx → exec (.rxRead i) s = .next { s with hostResult := some (.byte (Memory.read s.rxbuf i)) }) ∧
    (s.cfg.cRx ≤ i → exec (.rxRead i) s = .refused .indexOutOfRange)

/-- RXCUR_READ delivers the cursor; no element of the block changes (43_init_and_host_ops.md R143; where
the result is held is log 13). -/
def Obligations.RxcurReadDeliversCursor : Prop :=
  ∀ s : State, exec .rxcurRead s = .next { s with hostResult := some (.cursor s.rxcur) }

/-- TX_WRITE stores the byte in its cell and leaves every other cell and element alone, and refuses an index at or
above the capacity (43_init_and_host_ops.md; D26). -/
def Obligations.TxWriteStoresByte : Prop :=
  ∀ (i : Nat) (b : Byte) (s : State),
    (i < s.cfg.cTx → Memory.wf s.txbuf = true →
      ∃ m, exec (.txWrite i b) s = .next { s with txbuf := m } ∧ Memory.wf m = true ∧ Memory.read m i = b ∧
        ∀ j, j ≠ i → Memory.read m j = Memory.read s.txbuf j) ∧
    (s.cfg.cTx ≤ i → exec (.txWrite i b) s = .refused .indexOutOfRange)

/-- TXCUR_RESET sets the Tx cursor to 0; nothing else changes (43_init_and_host_ops.md R145). -/
def Obligations.TxcurResetZeroesCursor : Prop :=
  ∀ s : State, exec .txcurReset s = .next { s with txcur := 0 }

/-- FLAG_READ delivers both flags and clears neither (43_init_and_host_ops.md R146; where the result is held is
log 13). -/
def Obligations.FlagReadClearsNothing : Prop :=
  ∀ s : State, exec .flagRead s = .next { s with hostResult := some (.flags s.frameStarted s.byteReceived) }

/-- Each clear operation clears its flag; nothing else changes (43_init_and_host_ops.md R147, R148). -/
def Obligations.ClearOperationsClearOneFlag : Prop :=
  ∀ s : State,
    exec .clrFrameStarted s = .next { s with frameStarted := false } ∧
    exec .clrByteReceived s = .next { s with byteReceived := false }

/-- IRQ_DISABLE and IRQ_ENABLE write `IRQ_INH`; nothing else changes; while it is 1 no service is enabled
(43_init_and_host_ops.md; D28). -/
def Obligations.InhibitOperationsWriteIrqInh : Prop :=
  ∀ s : State,
    (∃ t, exec .irqDisable s = .next t ∧ t = { s with irqInh := true } ∧ enabledService t = none) ∧
    exec .irqEnable s = .next { s with irqInh := false }

/-! ### Class PERIPH -/

/-- SR_READ delivers `SR`, SR_WRITE writes it; nothing else changes, and a write while the line is an output is on
the line at once (40_shift_unit_and_bus.md R81, R82; where the result is held is log 13). -/
def Obligations.ShiftRegisterReadAndWrite : Prop :=
  ∀ (b : Byte) (s : State),
    exec .srRead s = .next { s with unitResult := some (.byte s.sr) } ∧
    ∃ t, exec (.srWrite b) s = .next t ∧ t = { s with sr := b } ∧
      (s.sdaDir = .output → slaveSda t = b.getLsbD 7)

/-- SDA_DIR_SET writes the direction; nothing else changes; `IN` releases the line whatever `SR` holds
(40_shift_unit_and_bus.md R83). -/
def Obligations.DirectionSetReleasesLine : Prop :=
  ∀ (d : Dir) (s : State), ∃ t, exec (.sdaDirSet d) s = .next t ∧ t = { s with sdaDir := d } ∧
    (d = .input → slaveSda t = true)

/-- ARM takes 1 or 8, loads the counter and discards a pending completion; any other length is refused
(40_shift_unit_and_bus.md; D10, D32). -/
def Obligations.ArmTakesOneOrEight : Prop :=
  ∀ (n : Nat) (s : State),
    (n = 1 ∨ n = 8 → exec (.arm n) s = .next { s with cnt := n, shiftPend := false }) ∧
    (n ≠ 1 → n ≠ 8 → exec (.arm n) s = .refused .armLength)

/-- TRIG_SET writes the two enables independently; nothing else changes, `SHIFT_PEND` neither
(40_shift_unit_and_bus.md R85). -/
def Obligations.TriggerEnablesIndependent : Prop :=
  ∀ (se he : Bool) (s : State), exec (.trigSet se he) s = .next { s with startEn := se, shiftEn := he }

/-- LINE_READ completes in every state and delivers the resolved lines: the level the master puts on a line where the
slave leaves it free, low where the slave drives the data line low or holds the clock; the block does not change
(40_shift_unit_and_bus.md R86, R87; wired-AND is D8; the master's levels `Config.masterSda` and `Config.masterScl` are
free values and the counter that draws them is the model's, log 12; where the result is held is log 13; that a pending
start holds the clock at once is log 26). -/
def Obligations.LineReadResolvesLines : Prop :=
  ∀ s : State,
    exec .lineRead s = .next { s with
      unitResult := some (.lines
        (Config.masterSda s.freeIdx && (decide (s.sdaDir = .input) || s.sr.getLsbD 7))
        (Config.masterScl s.freeIdx && !(s.startPend || s.shiftPend)))
      freeIdx := s.freeIdx + 1 }

/-! ### Class BUS -/

/-- BUS_START: with the clock and the data line free, and no byte in flight that the master acknowledged for and that
began with a 0, a start becomes pending if its trigger is enabled, nothing else changes; otherwise the event is not
enabled (40_shift_unit_and_bus.md, 70_reset_and_hazards.md section 2; D8, D11; that `byteHeld` depends on a parameter
of the configuration is log 25, the named refusals are log 10). -/
def Obligations.BusStartMarksStartPending : Prop :=
  ∀ s : State,
    (hold s = false → slaveSda s = true → byteHeld s = false → s.startEn = true →
      exec .busStart s = .next { s with startPend := true }) ∧
    (hold s = false → slaveSda s = true → byteHeld s = false → s.startEn = false → exec .busStart s = .next s) ∧
    (hold s = true → exec .busStart s = .refused .clockHeld) ∧
    (hold s = false → slaveSda s = false ∨ byteHeld s = true → exec .busStart s = .refused .dataLineLow)

/-- BUS_BIT: the register shifts in the resolved level, the count falls, the last slot of an armed group sets the
pending bit if the trigger is enabled, the master samples the resolved level; a held clock stops the event
(40_shift_unit_and_bus.md; D9, D10, D38; the named refusal is log 10, where the sampled level is held log 13). -/
def Obligations.BusBitShiftsAndCounts : Prop :=
  ∀ (m : Bool) (s : State),
    (hold s = false →
      exec (.busBit m) s = .next { s with
        sr := BitVec.ofNat 8 (2 * s.sr.toNat + (m && slaveSda s).toNat)
        cnt := if 1 ≤ s.cnt then s.cnt - 1 else 0
        shiftPend := s.cnt == 1 && s.shiftEn
        busResult := some (m && slaveSda s) }) ∧
    (hold s = true → exec (.busBit m) s = .refused .clockHeld)

/-- BUS_STOP changes nothing where it is enabled, and is not enabled while the clock is held, the slave holds the data
line low, or a byte that the master acknowledged for and that began with a 0 is in flight (40_shift_unit_and_bus.md,
70_reset_and_hazards.md section 2; D8, D30; that `byteHeld` depends on a parameter of the configuration is log 25, the
named refusals are log 10). -/
def Obligations.BusStopChangesNothing : Prop :=
  ∀ s : State,
    (hold s = false → slaveSda s = true → byteHeld s = false → exec .busStop s = .next s) ∧
    (hold s = true → exec .busStop s = .refused .clockHeld) ∧
    (hold s = false → slaveSda s = false ∨ byteHeld s = true → exec .busStop s = .refused .dataLineLow)

/-- Before INIT the block is deaf: with both triggers disabled, nothing pending, no group armed and the line released,
every bus event and every wire format completes and changes nothing but `SR` and what the master samples
(70_reset_and_hazards.md; D24, D38; that a wire format is an operation, the master's side of one group, is log 11, where
the sampled level is held log 13). -/
def Obligations.DeafBeforeInit : Prop :=
  ∀ (s : State) (i : Instr),
    s.startEn = false → s.shiftEn = false → s.startPend = false → s.shiftPend = false → s.cnt = 0 →
    s.sdaDir = .input → i.opClass = .bus ∨ i.opClass = .wire →
    ∃ r w, exec i s = .next { s with sr := r, busResult := w }

/-! ### Wire formats -/

/-- Refinement of the event level: a byte sent to an armed group is `SHIFT_COMPLETE` with that byte, for every value
of `PSTATE` (40_shift_unit_and_bus.md; D2, D7 to D11; log 11). -/
def Obligations.ReceivedByteIsShiftComplete : Prop :=
  ∀ (v : Byte) (s : State), Receiving s →
    exec (.data v) s = .next (shiftComplete v
      { s with sr := v, cnt := 0, shiftPend := true, busResult := some (v.getLsbD 0) })

/-- SLA+W and SLA+R while an address byte is awaited: another address forces idle; the own address is acknowledged
and selects the transaction (30_encoding.md, 42_shift_engine.md; D6, D7, D16, D21; log 11). -/
def Obligations.AddressByteSelectsTransaction : Prop :=
  ∀ (a : Addr7) (s : State), Receiving s → s.pstate = .checkAddress →
    (a ≠ s.addr.extractLsb' 1 7 →
      exec (.slaW a) s = .next { s with
        sr := BitVec.ofNat 8 (2 * a.toNat), cnt := 0, busResult := some false, shiftEn := false, startEn := true } ∧
      exec (.slaR a) s = .next { s with
        sr := BitVec.ofNat 8 (2 * a.toNat + 1), cnt := 0, busResult := some true, shiftEn := false,
        startEn := true }) ∧
    (a = s.addr.extractLsb' 1 7 →
      exec (.slaW a) s = .next { s with
        sr := 0x00, sdaDir := .output, cnt := 1, busResult := some false, rxcur := 0, pstate := .requestData } ∧
      exec (.slaR a) s = .next { s with
        sr := 0x00, sdaDir := .output, cnt := 1, busResult := some true, txcur := 0, pstate := .sendData })

/-- DATA while a data byte is awaited: it is stored with room and discarded without (30_encoding.md,
42_shift_engine.md; D7, D16, D19, D20; log 11). -/
def Obligations.DataByteReachesRxBuffer : Prop :=
  ∀ (d : Byte) (s : State), Receiving s → s.pstate = .getDataAndAck →
    (s.rxcur < s.cfg.cRx → Memory.wf s.rxbuf = true →
      ∃ m, exec (.data d) s = .next { s with
          rxbuf := m, rxcur := s.rxcur + 1, frameStarted := s.frameStarted || (s.rxcur == 0), byteReceived := true,
          sr := 0x00, sdaDir := .output, cnt := 1, busResult := some (d.getLsbD 0), pstate := .requestData } ∧
        Memory.wf m = true ∧ Memory.read m s.rxcur = d ∧
        ∀ j, j ≠ s.rxcur → Memory.read m j = Memory.read s.rxbuf j) ∧
    (s.cfg.cRx ≤ s.rxcur →
      exec (.data d) s = .next { s with
        byteReceived := s.byteReceived || s.cfg.rxFlagOnDiscard,
        sr := 0x00, sdaDir := .output, cnt := 1, busResult := some (d.getLsbD 0), pstate := .requestData })

/-- ACK and NACK in the master's reply slot: NACK forces idle, ACK loads the next byte or, with none left, forces idle
(30_encoding.md, 42_shift_engine.md; D17, D21; log 11; that a 0 in its bit 7 is remembered is log 25). -/
def Obligations.MasterReplySlotDecides : Prop :=
  ∀ s : State, s.cnt = 1 → s.sdaDir = .input → s.shiftEn = true → hold s = false → s.irqInh = false →
    s.pstate = .checkReplyForSend →
    exec .nack s = .next { s with
      sr := BitVec.ofNat 8 (2 * s.sr.toNat + 1), cnt := 0, busResult := some true, shiftEn := false,
      startEn := true } ∧
    (s.txcur < s.cfg.cTx →
      exec .ack s = .next { s with
        sr := Memory.read s.txbuf s.txcur, sdaDir := .output, cnt := 8, busResult := some false,
        pstate := .requestReplyForSend,
        ackedLow := !(Memory.read s.txbuf s.txcur).getLsbD 7 }) ∧
    (s.cfg.cTx ≤ s.txcur →
      exec .ack s = .next { s with
        sr := BitVec.ofNat 8 (2 * s.sr.toNat), cnt := 0, busResult := some false, shiftEn := false,
        startEn := true })

/-- The slave's acknowledgement slot: whether the master releases the line or not, it reads ACK, and the block goes on
to receive a byte or to send one (30_encoding.md, 42_shift_engine.md; D16; log 11; that the byte is marked as not
acknowledged for is log 25). -/
def Obligations.SlaveAckSlotReadsLow : Prop :=
  ∀ (s : State) (i : Instr), i = .ack ∨ i = .nack →
    s.cnt = 1 → s.sdaDir = .output → s.sr = 0x00 → s.shiftEn = true → hold s = false → s.irqInh = false →
    (s.pstate = .requestData →
      exec i s = .next { s with sdaDir := .input, cnt := 8, busResult := some false, pstate := .getDataAndAck }) ∧
    (s.pstate = .sendData → s.txcur < s.cfg.cTx →
      exec i s = .next { s with
        sr := Memory.read s.txbuf s.txcur, cnt := 8, busResult := some false, pstate := .requestReplyForSend,
        ackedLow := false })

/-- A byte the slave sends is what the master samples, and afterwards the block awaits the reply with `SR` as it was
sent; if the byte is one that the master acknowledged for and began with a 0, the master can produce neither a start
nor a stop, whatever it put in the slots, until all eight are clocked, where the configuration takes that reading; of
any other byte both are enabled wherever the slave leaves the data line free (40_shift_unit_and_bus.md,
70_reset_and_hazards.md section 2; D7, D9, D18; log 25). -/
def Obligations.SentByteIsSampledByMaster : Prop :=
  ∀ s : State, Sending s →
    ∃ t, observe (wireBits 0xFF) s = some (t, wireBits s.sr) ∧ exec (.data 0xFF) s = .next t ∧
      t = { s with
        txcur := s.txcur + 1, sdaDir := .input, cnt := 1, busResult := some (s.sr.getLsbD 0),
        pstate := .checkReplyForSend } ∧
      ∀ ms : List Bool, ms.length < 8 → ∃ u ws, observe ms s = some (u, ws) ∧
        (s.cfg.lowByteHoldsBus = true → s.ackedLow = true →
          exec .busStart u = .refused .dataLineLow ∧ exec .busStop u = .refused .dataLineLow) ∧
        (s.cfg.lowByteHoldsBus = false ∨ s.ackedLow = false → slaveSda u = true →
          exec .busStart u = .next { u with startPend := u.startEn } ∧ exec .busStop u = .next u)

/-- While the clock is held no bus event and no wire format is enabled (40_shift_unit_and_bus.md; D11, D12; that a wire
format is an operation, refused whole on a held clock, is log 11, the named refusal is log 10). -/
def Obligations.HeldClockStopsTheBus : Prop :=
  ∀ (s : State) (i : Instr), hold s = true → i.opClass = .bus ∨ i.opClass = .wire →
    exec i s = .refused .clockHeld

/-! ### Frames -/

/-- Operations that store nothing leave every byte of both buffers as it was: all but GET_DATA_AND_ACK, TX_WRITE and
the wire formats (20_memory.md, 10_state.md section 4). -/
def Obligations.OtherOperationsStoreNothing : Prop :=
  ∀ (s t : State) (i : Instr), exec i s = .next t → i.opClass ≠ .wire → i ≠ .getDataAndAck →
    (∀ k b, i ≠ .txWrite k b) →
    ∀ a, Memory.read t.rxbuf a = Memory.read s.rxbuf a ∧ Memory.read t.txbuf a = Memory.read s.txbuf a

/-- The storing operations outside the wire formats: GET_DATA_AND_ACK stores at `RXCUR` only, TX_WRITE at its index
only, neither in the other buffer (20_memory.md, 10_state.md section 4). -/
def Obligations.StoringOperationsStoreAtTheirIndex : Prop :=
  ∀ s t : State,
    (exec .getDataAndAck s = .next t →
      (∀ a, a ≠ s.rxcur → Memory.read t.rxbuf a = Memory.read s.rxbuf a) ∧
      ∀ a, Memory.read t.txbuf a = Memory.read s.txbuf a) ∧
    ∀ (k : Nat) (b : Byte), exec (.txWrite k b) s = .next t →
      (∀ a, a ≠ k → Memory.read t.txbuf a = Memory.read s.txbuf a) ∧
      ∀ a, Memory.read t.rxbuf a = Memory.read s.rxbuf a

/-- The wire formats change nothing the collaborator owns, and store in RxBuffer at `RXCUR` only
(10_state.md section 4; log 11). -/
def Obligations.WireFormatsFrame : Prop :=
  ∀ (s t : State) (i : Instr), i.opClass = .wire → exec i s = .next t →
    t.addr = s.addr ∧ t.txbuf = s.txbuf ∧ t.irqInh = s.irqInh ∧ t.cfg = s.cfg ∧ t.hostResult = s.hostResult ∧
    t.unitResult = s.unitResult ∧ t.freeIdx = s.freeIdx ∧ t.inputs = s.inputs ∧
    ∀ a, a ≠ s.rxcur → Memory.read t.rxbuf a = Memory.read s.rxbuf a

/-- A collaborator operation changes no element that only the block and the bus write: `RXBUF`, `RXCUR`, `PSTATE` and
`SR` in no case, the Shift Unit's other elements by INIT only (10_state.md section 4). -/
def Obligations.HostOperationsFrame : Prop :=
  ∀ (s t : State) (i : Instr), i.opClass = .host → exec i s = .next t →
    t.rxbuf = s.rxbuf ∧ t.rxcur = s.rxcur ∧ t.pstate = s.pstate ∧ t.sr = s.sr ∧ t.ackedLow = s.ackedLow ∧
    t.busResult = s.busResult ∧ t.unitResult = s.unitResult ∧ t.cfg = s.cfg ∧ t.freeIdx = s.freeIdx ∧
    t.inputs = s.inputs ∧
    (i ≠ .init → t.cnt = s.cnt ∧ t.sdaDir = s.sdaDir ∧ t.startEn = s.startEn ∧ t.shiftEn = s.shiftEn ∧
      t.startPend = s.startPend ∧ t.shiftPend = s.shiftPend)

/-! ### Invariants and whole-machine rules -/

/-- What power-on reset leaves, for every configuration and all values of the unspecified elements: cursors, counter,
flags, enables, pending bits and inhibit at 0, the data line released, no service enabled, the clock free
(10_state.md section 5, 70_reset_and_hazards.md; the values are D24; log 6). -/
def Obligations.ResetLeavesSpecifiedElements : Prop :=
  ∀ (cfg : Config) (u : PowerOn), ∃ s, s = State.resetWith cfg u ∧
    s.rxcur = 0 ∧ s.txcur = 0 ∧ s.frameStarted = false ∧ s.byteReceived = false ∧ s.cnt = 0 ∧ s.sdaDir = .input ∧
    s.startEn = false ∧ s.shiftEn = false ∧ s.startPend = false ∧ s.shiftPend = false ∧ s.irqInh = false ∧
    hold s = false ∧ slaveSda s = true ∧ enabledService s = none

/-- After power-on the invariant holds for every legal configuration and all values of the unspecified elements
(10_state.md; the reset values are D24; log 6). -/
def Obligations.PowerOnHasInvariant : Prop :=
  ∀ (cfg : Config) (u : PowerOn), 1 ≤ cfg.cRx → 1 ≤ cfg.cTx → u.valid cfg = true →
    Inv (State.resetWith cfg u)

/-- Every step of the machine keeps the invariant of 10_state.md R27 and of the buffers' form. -/
def Obligations.StepKeepsTheInvariant : Prop :=
  ∀ s t : State, Inv s → step s = .next t → Inv t

/-- In every reachable state both cursors are at most their capacities and fit the cursor registers' widths
(the invariant of 10_state.md section 3, 00_scope.md section 4; D4). -/
def Obligations.ReachableCursorsFitTheirWidths : Prop :=
  ∀ s : State, Reachable s →
    s.rxcur ≤ s.cfg.cRx ∧ s.txcur ≤ s.cfg.cTx ∧
    s.rxcur < 2 ^ Config.cursorWidth s.cfg.cRx ∧ s.txcur < 2 ^ Config.cursorWidth s.cfg.cTx

/-- Once enabled, the start trigger stays enabled: no step of the environment or of the block disables it
(10_state.md R21 and R27 (3); D24 and D25 say when it is enabled first). -/
def Obligations.StartTriggerStaysEnabled : Prop :=
  ∀ s t : State, (∀ it ∈ s.inputs, Input.environment it = true) → s.startEn = true → step s = .next t →
    t.startEn = true

/-- The notification flags are cleared only by the collaborator's clear operations (10_state.md section 1). -/
def Obligations.FlagsClearedOnlyByCollaborator : Prop :=
  ∀ s t : State, step s = .next t →
    (s.frameStarted = true → t.frameStarted = false →
      ∃ it ∈ s.inputs, it.agent = .collaborator ∧ decodeWhole it.bytes = .ok .clrFrameStarted) ∧
    (s.byteReceived = true → t.byteReceived = false →
      ∃ it ∈ s.inputs, it.agent = .collaborator ∧ decodeWhole it.bytes = .ok .clrByteReceived)

/-- `ADDR` and `TXBUF` have one writer: a step that changes one took the collaborator's operation for it, with that
operation's effect (10_state.md section 4). -/
def Obligations.AddressAndTxBufferHaveOneWriter : Prop :=
  ∀ s t : State, step s = .next t →
    (t.addr ≠ s.addr → ∃ it ∈ s.inputs, ∃ a, it.agent = .collaborator ∧ decodeWhole it.bytes = .ok (.setAddress a) ∧
      t.addr = BitVec.ofNat 8 (2 * a.toNat)) ∧
    (t.txbuf ≠ s.txbuf → ∃ it ∈ s.inputs, ∃ k b, it.agent = .collaborator ∧
      decodeWhole it.bytes = .ok (.txWrite k b) ∧ k < s.cfg.cTx ∧ t.txbuf = Memory.write s.txbuf k b)

/-- The value `PSTATE` keeps while the shift trigger is disabled is never observed: two machines that differ in it
alone take steps to machines that differ in it alone, and agree wholly once the trigger is enabled
(10_state.md; D22; log 21). -/
def Obligations.RetainedProtocolStateUnobserved : Prop :=
  ∀ (s t : State) (p : PState), (∀ it ∈ s.inputs, Input.environment it = true) → s.shiftEn = false →
    step s = .next t →
    ∃ q, step { s with pstate := p } = .next { t with pstate := q } ∧ (t.shiftEn = true → q = t.pstate)

/-! ### Transactions -/

/-- A write transaction of any length: after a start and the own address with direction write, every byte is
acknowledged, the first `C_rx` bytes are stored in order, the rest is discarded, the flags tell that data came, and
nothing the collaborator owns changes (42_shift_engine.md, 95_test_vectors.md T2, T3; D6, D7, D16, D19, D20; the slots
of `observe` are log 11). -/
def Obligations.WriteTransactionFillsRxBuffer : Prop :=
  ∀ (s : State) (ds : List Byte), Listening s → 1 ≤ s.cfg.cRx → Memory.wf s.rxbuf = true →
    ∃ u t, runOps [.busStart, .svcStart s.pstate.code] s = .next u ∧
      observe (wireBits (addrByte (s.addr.extractLsb' 1 7) false) ++ true :: ds.flatMap fun d => wireBits d ++ [true])
          u =
        some (t, wireBits (addrByte (s.addr.extractLsb' 1 7) false) ++
          false :: ds.flatMap fun d => wireBits d ++ [false]) ∧
      t.rxcur = min ds.length s.cfg.cRx ∧
      (∀ k (h : k < ds.length), k < s.cfg.cRx → Memory.read t.rxbuf k = ds[k]) ∧
      (∀ k, min ds.length s.cfg.cRx ≤ k → Memory.read t.rxbuf k = Memory.read s.rxbuf k) ∧
      (ds ≠ [] → t.frameStarted = true ∧ t.byteReceived = true) ∧
      (ds = [] → t.frameStarted = s.frameStarted ∧ t.byteReceived = s.byteReceived) ∧
      t.pstate = .getDataAndAck ∧ t.cnt = 8 ∧ t.sdaDir = .input ∧ t.shiftEn = true ∧
      t.addr = s.addr ∧ t.txbuf = s.txbuf ∧ t.txcur = s.txcur

/-- A read transaction whose `M`-th byte the master answers with NACK, every byte before it with ACK: the master
samples `TXBUF[0 .. M]`, the cursor is `M + 1`, the block is idle, buffers, flags and address are unchanged
(42_shift_engine.md, 95_test_vectors.md T5; D6, D7, D17, D18; the slots of `observe` are log 11). -/
def Obligations.ReadTransactionEndsAtNack : Prop :=
  ∀ (s : State) (M : Nat), Listening s → M < s.cfg.cTx →
    ∃ u t, runOps [.busStart, .svcStart s.pstate.code] s = .next u ∧
      observe (wireBits (addrByte (s.addr.extractLsb' 1 7) true) ++
          true :: ((List.range M).flatMap (fun _ => wireBits 0xFF ++ [false]) ++ (wireBits 0xFF ++ [true]))) u =
        some (t, wireBits (addrByte (s.addr.extractLsb' 1 7) true) ++
          false :: ((List.range M).flatMap (fun k => wireBits (Memory.read s.txbuf k) ++ [false]) ++
            (wireBits (Memory.read s.txbuf M) ++ [true]))) ∧
      t.txcur = M + 1 ∧ idle t = true ∧ hold t = false ∧ t.txbuf = s.txbuf ∧ t.rxbuf = s.rxbuf ∧
      t.rxcur = s.rxcur ∧ t.frameStarted = s.frameStarted ∧ t.byteReceived = s.byteReceived ∧ t.addr = s.addr

/-- A read transaction with every byte acknowledged: below the capacity the next byte is loaded and driven; at the
capacity the block is idle and a further byte reads `0xFF` (42_shift_engine.md, 95_test_vectors.md T4; D6, D7, D17,
D18; the slots of `observe` are log 11; that a 0 in bit 7 of the loaded byte is remembered is log 25). -/
def Obligations.ReadTransactionAllAcknowledged : Prop :=
  ∀ (s : State) (K : Nat), Listening s → 1 ≤ s.cfg.cTx → K ≤ s.cfg.cTx →
    ∃ u t, runOps [.busStart, .svcStart s.pstate.code] s = .next u ∧
      observe (wireBits (addrByte (s.addr.extractLsb' 1 7) true) ++
          true :: (List.range K).flatMap (fun _ => wireBits 0xFF ++ [false])) u =
        some (t, wireBits (addrByte (s.addr.extractLsb' 1 7) true) ++
          false :: (List.range K).flatMap (fun k => wireBits (Memory.read s.txbuf k) ++ [false])) ∧
      t.txcur = K ∧ t.txbuf = s.txbuf ∧ t.rxbuf = s.rxbuf ∧ t.rxcur = s.rxcur ∧
      (K < s.cfg.cTx → Sending t ∧ t.sr = Memory.read s.txbuf K ∧
        t.ackedLow = (decide (0 < K) && !(Memory.read s.txbuf K).getLsbD 7)) ∧
      (K = s.cfg.cTx → idle t = true ∧ hold t = false ∧
        ∃ t', observe (wireBits 0xFF) t = some (t', wireBits 0xFF) ∧ idle t' = true)

/-- Another device's address: the ninth slot is not driven, the block is idle, and buffers, cursors, flags and address
are unchanged; until the next start further slots change only `SR` and what the master samples
(42_shift_engine.md, 95_test_vectors.md T1; D7, D21; the slots of `observe` are log 11). -/
def Obligations.AddressMismatchLeavesEverything : Prop :=
  ∀ (s : State) (v : Byte) (ms : List Bool), Listening s → v.extractLsb' 1 7 ≠ s.addr.extractLsb' 1 7 →
    ∃ u r w, runOps [.busStart, .svcStart s.pstate.code] s = .next u ∧
      observe (wireBits v ++ true :: ms) u =
        some ({ s with
          pstate := .checkAddress, sr := r, cnt := 0, sdaDir := .input, startEn := true, shiftEn := false,
          startPend := false, shiftPend := false, busResult := w }, wireBits v ++ true :: ms)
end

