-- ==== Sys2Proof/Laws/Memory.lean ====
section
/-! SUPPORT. The laws of the buffer memories (20_memory.md R41): read after write, canonical form, capacity, and
equality of memories that read alike. -/

namespace Sys2Proof.Machine

@[simp] theorem Memory.read_nil (i : Nat) : Memory.read [] i = Config.unwritten := rfl

/-- Every index listed in a canonical memory is at least the first one, and the tail lies above it. -/
theorem Memory.wf_cons {a : Nat} {b : Byte} {m : Memory} :
    Memory.wf ((a, b) :: m) = true ↔
      b ≠ Config.unwritten ∧ (∀ c ∈ m, a < c.1) ∧ Memory.wf m = true := by
  induction m generalizing a b with
  | nil => simp [Memory.wf]
  | cons c m ih =>
    obtain ⟨c, d⟩ := c
    simp only [Memory.wf, Bool.and_eq_true, decide_eq_true_eq, bne_iff_ne, List.mem_cons, forall_eq_or_imp, ih]
    constructor
    · rintro ⟨⟨hac, hb⟩, hd, hm, hw⟩
      exact ⟨hb, ⟨hac, fun x hx => Nat.lt_trans hac (hm x hx)⟩, hd, hm, hw⟩
    · rintro ⟨hb, ⟨hac, -⟩, hd, hm, hw⟩
      exact ⟨⟨hac, hb⟩, hd, hm, hw⟩

/-- An index below every listed one reads as an unwritten cell. -/
theorem Memory.read_of_lt {m : Memory} {i : Nat} (h : ∀ c ∈ m, i < c.1) :
    Memory.read m i = Config.unwritten := by
  induction m with
  | nil => rfl
  | cons c m ih =>
    have hc := h c (by simp)
    simp only [Memory.read]
    rw [if_neg (by omega)]
    exact ih fun x hx => h x (by simp [hx])

/-- A read of the written cell gives the byte written, if the memory is canonical. -/
theorem Memory.read_write_same {m : Memory} (i : Nat) (v : Byte) (h : Memory.wf m = true) :
    Memory.read (Memory.write m i v) i = v := by
  induction m with
  | nil => by_cases hv : v = Config.unwritten <;> simp [Memory.write, Memory.read, hv]
  | cons c m ih =>
    obtain ⟨a, b⟩ := c
    obtain ⟨hb, hm, hw⟩ := Memory.wf_cons.mp h
    simp only [Memory.write]
    by_cases hia : i < a
    · by_cases hv : v = Config.unwritten
      · have hr : Memory.read ((a, b) :: m) i = Config.unwritten :=
          Memory.read_of_lt (by simpa [hia] using fun x y hx => Nat.lt_trans hia (hm (x, y) hx))
        simpa [hia, hv] using hr
      · simp [hia, hv, Memory.read]
    · by_cases hia' : i = a
      · subst hia'
        by_cases hv : v = Config.unwritten
        · simpa [hv] using Memory.read_of_lt hm
        · simp [hv, Memory.read]
      · simp [hia, hia', Memory.read, ih hw]

/-- A write leaves every other cell alone. -/
theorem Memory.read_write_other {m : Memory} {i j : Nat} (v : Byte) (h : j ≠ i) :
    Memory.read (Memory.write m i v) j = Memory.read m j := by
  induction m with
  | nil => by_cases hv : v = Config.unwritten <;> simp [Memory.write, Memory.read, hv, h]
  | cons c m ih =>
    obtain ⟨a, b⟩ := c
    simp only [Memory.write]
    by_cases hia : i < a
    · by_cases hv : v = Config.unwritten <;> simp [hia, hv, Memory.read, h]
    · by_cases hia' : i = a
      · subst hia'
        by_cases hv : v = Config.unwritten <;> simp [hv, Memory.read, h]
      · simp only [hia, hia', if_false, Memory.read]
        by_cases hja : j = a <;> simp [hja, ih]

/-- Where a written memory lists a cell, the cell was listed before or is the one written. -/
theorem Memory.mem_write {m : Memory} {i : Nat} {v : Byte} {c : Host.Cell} (h : c ∈ Memory.write m i v) :
    c ∈ m ∨ c.1 = i := by
  induction m with
  | nil =>
    by_cases hv : v = Config.unwritten
    · simp [Memory.write, hv] at h
    · right; simp [Memory.write, hv] at h; simp [h]
  | cons d m ih =>
    obtain ⟨a, b⟩ := d
    simp only [Memory.write] at h
    split at h
    · split at h
      · exact .inl h
      · rcases List.mem_cons.mp h with h | h
        · exact .inr (by simp [h])
        · exact .inl h
    · split at h
      · split at h
        · exact .inl (List.mem_cons_of_mem _ h)
        · rcases List.mem_cons.mp h with h | h
          · exact .inr (by simp [h])
          · exact .inl (List.mem_cons_of_mem _ h)
      · rcases List.mem_cons.mp h with h | h
        · exact .inl (by simp [h])
        · exact (ih h).imp (List.mem_cons_of_mem _) id

/-- A write keeps the canonical form. -/
theorem Memory.write_wf {m : Memory} (i : Nat) (v : Byte) (h : Memory.wf m = true) :
    Memory.wf (Memory.write m i v) = true := by
  induction m with
  | nil => by_cases hv : v = Config.unwritten <;> simp [Memory.write, Memory.wf, hv]
  | cons c m ih =>
    obtain ⟨a, b⟩ := c
    obtain ⟨hb, hm, hw⟩ := Memory.wf_cons.mp h
    simp only [Memory.write]
    split
    · split
      · exact h
      · refine Memory.wf_cons.mpr ⟨‹_›, ?_, h⟩
        simpa [‹i < a›] using fun x y hx => Nat.lt_trans ‹i < a› (hm (x, y) hx)
    · split
      · subst ‹i = a›
        split
        · exact hw
        · exact Memory.wf_cons.mpr ⟨‹_›, hm, hw⟩
      · refine Memory.wf_cons.mpr ⟨hb, fun x hx => ?_, ih hw⟩
        rcases Memory.mem_write hx with hx | hx
        · exact hm x hx
        · omega

/-- A write below the capacity keeps every listed index below it. -/
theorem Memory.write_within {m : Memory} {n i : Nat} (v : Byte) (hi : i < n) (h : Memory.within n m = true) :
    Memory.within n (Memory.write m i v) = true := by
  simp only [Memory.within, List.all_eq_true, decide_eq_true_eq] at h ⊢
  intro c hc
  rcases Memory.mem_write hc with hc | hc
  · exact h c hc
  · omega

/-- A memory whose listed indexes all lie below the capacity reads as unwritten from there on. -/
theorem Memory.read_beyond {m : Memory} {n i : Nat} (h : Memory.within n m = true) (hi : n ≤ i) :
    Memory.read m i = Config.unwritten := by
  induction m with
  | nil => rfl
  | cons c m ih =>
    simp only [Memory.within, List.all_cons, Bool.and_eq_true, decide_eq_true_eq] at h
    simp only [Memory.read]
    rw [if_neg (by omega)]
    exact ih h.2

/-- Canonical memories that read alike are equal. -/
theorem Memory.ext {m n : Memory} (hm : Memory.wf m = true) (hn : Memory.wf n = true)
    (h : ∀ i, Memory.read m i = Memory.read n i) : m = n := by
  induction m generalizing n with
  | nil =>
    cases n with
    | nil => rfl
    | cons c n =>
      have := h c.1
      exact absurd (by simpa [Memory.read] using this.symm) (Memory.wf_cons.mp hn).1
  | cons c m ih =>
    obtain ⟨a, b⟩ := c
    obtain ⟨hb, hma, hmw⟩ := Memory.wf_cons.mp hm
    cases n with
    | nil => exact absurd (by simpa [Memory.read] using h a) hb
    | cons d n =>
      obtain ⟨c, d⟩ := d
      obtain ⟨hd, hnc, hnw⟩ := Memory.wf_cons.mp hn
      have below {x y : Nat} {z : Byte} {l : Memory} (hl : ∀ p ∈ l, x < p.1) (hxy : y < x) :
          Memory.read ((x, z) :: l) y = Config.unwritten :=
        Memory.read_of_lt (by simpa [hxy] using fun p q hp => Nat.lt_trans hxy (hl (p, q) hp))
      have hac : a = c := by
        rcases Nat.lt_trichotomy a c with hlt | heq | hgt
        · have := h a; rw [below hnc hlt] at this
          exact absurd (by simpa [Memory.read] using this) hb
        · exact heq
        · have := h c; rw [below hma hgt] at this
          exact absurd (by simpa [Memory.read] using this.symm) hd
      subst hac
      have hbd : b = d := by simpa [Memory.read] using h a
      subst hbd
      rw [ih hmw hnw fun i => ?_]
      by_cases hi : i = a
      · subst hi; rw [Memory.read_of_lt hma, Memory.read_of_lt hnc]
      · simpa [Memory.read, hi] using h i

end Sys2Proof.Machine
end

