-- ==== Sys2Proof/Laws/State.lean ====
section
/-! SUPPORT. One lemma per field of State for every operation that updates it: the changed fields have the value the
rule gives, every other field is unchanged. -/

namespace Sys2Proof.Machine

variable (s : State)

@[simp] theorem setSr_cfg (b : Byte) : (setSr b s).cfg = s.cfg := rfl
@[simp] theorem setSr_addr (b : Byte) : (setSr b s).addr = s.addr := rfl
@[simp] theorem setSr_rxbuf (b : Byte) : (setSr b s).rxbuf = s.rxbuf := rfl
@[simp] theorem setSr_rxcur (b : Byte) : (setSr b s).rxcur = s.rxcur := rfl
@[simp] theorem setSr_txbuf (b : Byte) : (setSr b s).txbuf = s.txbuf := rfl
@[simp] theorem setSr_txcur (b : Byte) : (setSr b s).txcur = s.txcur := rfl
@[simp] theorem setSr_pstate (b : Byte) : (setSr b s).pstate = s.pstate := rfl
@[simp] theorem setSr_frameStarted (b : Byte) : (setSr b s).frameStarted = s.frameStarted := rfl
@[simp] theorem setSr_byteReceived (b : Byte) : (setSr b s).byteReceived = s.byteReceived := rfl
@[simp] theorem setSr_sr (b : Byte) : (setSr b s).sr = b := rfl
@[simp] theorem setSr_cnt (b : Byte) : (setSr b s).cnt = s.cnt := rfl
@[simp] theorem setSr_sdaDir (b : Byte) : (setSr b s).sdaDir = s.sdaDir := rfl
@[simp] theorem setSr_startEn (b : Byte) : (setSr b s).startEn = s.startEn := rfl
@[simp] theorem setSr_shiftEn (b : Byte) : (setSr b s).shiftEn = s.shiftEn := rfl
@[simp] theorem setSr_startPend (b : Byte) : (setSr b s).startPend = s.startPend := rfl
@[simp] theorem setSr_shiftPend (b : Byte) : (setSr b s).shiftPend = s.shiftPend := rfl
@[simp] theorem setSr_irqInh (b : Byte) : (setSr b s).irqInh = s.irqInh := rfl
@[simp] theorem setSr_ackedLow (b : Byte) : (setSr b s).ackedLow = s.ackedLow := rfl
@[simp] theorem setSr_busResult (b : Byte) : (setSr b s).busResult = s.busResult := rfl
@[simp] theorem setSr_hostResult (b : Byte) : (setSr b s).hostResult = s.hostResult := rfl
@[simp] theorem setSr_unitResult (b : Byte) : (setSr b s).unitResult = s.unitResult := rfl
@[simp] theorem setSr_freeIdx (b : Byte) : (setSr b s).freeIdx = s.freeIdx := rfl
@[simp] theorem setSr_inputs (b : Byte) : (setSr b s).inputs = s.inputs := rfl

@[simp] theorem setSdaDir_cfg (d : Dir) : (setSdaDir d s).cfg = s.cfg := rfl
@[simp] theorem setSdaDir_addr (d : Dir) : (setSdaDir d s).addr = s.addr := rfl
@[simp] theorem setSdaDir_rxbuf (d : Dir) : (setSdaDir d s).rxbuf = s.rxbuf := rfl
@[simp] theorem setSdaDir_rxcur (d : Dir) : (setSdaDir d s).rxcur = s.rxcur := rfl
@[simp] theorem setSdaDir_txbuf (d : Dir) : (setSdaDir d s).txbuf = s.txbuf := rfl
@[simp] theorem setSdaDir_txcur (d : Dir) : (setSdaDir d s).txcur = s.txcur := rfl
@[simp] theorem setSdaDir_pstate (d : Dir) : (setSdaDir d s).pstate = s.pstate := rfl
@[simp] theorem setSdaDir_frameStarted (d : Dir) : (setSdaDir d s).frameStarted = s.frameStarted := rfl
@[simp] theorem setSdaDir_byteReceived (d : Dir) : (setSdaDir d s).byteReceived = s.byteReceived := rfl
@[simp] theorem setSdaDir_sr (d : Dir) : (setSdaDir d s).sr = s.sr := rfl
@[simp] theorem setSdaDir_cnt (d : Dir) : (setSdaDir d s).cnt = s.cnt := rfl
@[simp] theorem setSdaDir_sdaDir (d : Dir) : (setSdaDir d s).sdaDir = d := rfl
@[simp] theorem setSdaDir_startEn (d : Dir) : (setSdaDir d s).startEn = s.startEn := rfl
@[simp] theorem setSdaDir_shiftEn (d : Dir) : (setSdaDir d s).shiftEn = s.shiftEn := rfl
@[simp] theorem setSdaDir_startPend (d : Dir) : (setSdaDir d s).startPend = s.startPend := rfl
@[simp] theorem setSdaDir_shiftPend (d : Dir) : (setSdaDir d s).shiftPend = s.shiftPend := rfl
@[simp] theorem setSdaDir_irqInh (d : Dir) : (setSdaDir d s).irqInh = s.irqInh := rfl
@[simp] theorem setSdaDir_ackedLow (d : Dir) : (setSdaDir d s).ackedLow = s.ackedLow := rfl
@[simp] theorem setSdaDir_busResult (d : Dir) : (setSdaDir d s).busResult = s.busResult := rfl
@[simp] theorem setSdaDir_hostResult (d : Dir) : (setSdaDir d s).hostResult = s.hostResult := rfl
@[simp] theorem setSdaDir_unitResult (d : Dir) : (setSdaDir d s).unitResult = s.unitResult := rfl
@[simp] theorem setSdaDir_freeIdx (d : Dir) : (setSdaDir d s).freeIdx = s.freeIdx := rfl
@[simp] theorem setSdaDir_inputs (d : Dir) : (setSdaDir d s).inputs = s.inputs := rfl

@[simp] theorem armGroup_cfg (n : Nat) : (armGroup n s).cfg = s.cfg := rfl
@[simp] theorem armGroup_addr (n : Nat) : (armGroup n s).addr = s.addr := rfl
@[simp] theorem armGroup_rxbuf (n : Nat) : (armGroup n s).rxbuf = s.rxbuf := rfl
@[simp] theorem armGroup_rxcur (n : Nat) : (armGroup n s).rxcur = s.rxcur := rfl
@[simp] theorem armGroup_txbuf (n : Nat) : (armGroup n s).txbuf = s.txbuf := rfl
@[simp] theorem armGroup_txcur (n : Nat) : (armGroup n s).txcur = s.txcur := rfl
@[simp] theorem armGroup_pstate (n : Nat) : (armGroup n s).pstate = s.pstate := rfl
@[simp] theorem armGroup_frameStarted (n : Nat) : (armGroup n s).frameStarted = s.frameStarted := rfl
@[simp] theorem armGroup_byteReceived (n : Nat) : (armGroup n s).byteReceived = s.byteReceived := rfl
@[simp] theorem armGroup_sr (n : Nat) : (armGroup n s).sr = s.sr := rfl
@[simp] theorem armGroup_cnt (n : Nat) : (armGroup n s).cnt = n := rfl
@[simp] theorem armGroup_sdaDir (n : Nat) : (armGroup n s).sdaDir = s.sdaDir := rfl
@[simp] theorem armGroup_startEn (n : Nat) : (armGroup n s).startEn = s.startEn := rfl
@[simp] theorem armGroup_shiftEn (n : Nat) : (armGroup n s).shiftEn = s.shiftEn := rfl
@[simp] theorem armGroup_startPend (n : Nat) : (armGroup n s).startPend = s.startPend := rfl
@[simp] theorem armGroup_shiftPend (n : Nat) : (armGroup n s).shiftPend = false := rfl
@[simp] theorem armGroup_irqInh (n : Nat) : (armGroup n s).irqInh = s.irqInh := rfl
@[simp] theorem armGroup_ackedLow (n : Nat) : (armGroup n s).ackedLow = s.ackedLow := rfl
@[simp] theorem armGroup_busResult (n : Nat) : (armGroup n s).busResult = s.busResult := rfl
@[simp] theorem armGroup_hostResult (n : Nat) : (armGroup n s).hostResult = s.hostResult := rfl
@[simp] theorem armGroup_unitResult (n : Nat) : (armGroup n s).unitResult = s.unitResult := rfl
@[simp] theorem armGroup_freeIdx (n : Nat) : (armGroup n s).freeIdx = s.freeIdx := rfl
@[simp] theorem armGroup_inputs (n : Nat) : (armGroup n s).inputs = s.inputs := rfl

@[simp] theorem setTriggers_cfg (se he : Bool) : (setTriggers se he s).cfg = s.cfg := rfl
@[simp] theorem setTriggers_addr (se he : Bool) : (setTriggers se he s).addr = s.addr := rfl
@[simp] theorem setTriggers_rxbuf (se he : Bool) : (setTriggers se he s).rxbuf = s.rxbuf := rfl
@[simp] theorem setTriggers_rxcur (se he : Bool) : (setTriggers se he s).rxcur = s.rxcur := rfl
@[simp] theorem setTriggers_txbuf (se he : Bool) : (setTriggers se he s).txbuf = s.txbuf := rfl
@[simp] theorem setTriggers_txcur (se he : Bool) : (setTriggers se he s).txcur = s.txcur := rfl
@[simp] theorem setTriggers_pstate (se he : Bool) : (setTriggers se he s).pstate = s.pstate := rfl
@[simp] theorem setTriggers_frameStarted (se he : Bool) : (setTriggers se he s).frameStarted = s.frameStarted := rfl
@[simp] theorem setTriggers_byteReceived (se he : Bool) : (setTriggers se he s).byteReceived = s.byteReceived := rfl
@[simp] theorem setTriggers_sr (se he : Bool) : (setTriggers se he s).sr = s.sr := rfl
@[simp] theorem setTriggers_cnt (se he : Bool) : (setTriggers se he s).cnt = s.cnt := rfl
@[simp] theorem setTriggers_sdaDir (se he : Bool) : (setTriggers se he s).sdaDir = s.sdaDir := rfl
@[simp] theorem setTriggers_startEn (se he : Bool) : (setTriggers se he s).startEn = se := rfl
@[simp] theorem setTriggers_shiftEn (se he : Bool) : (setTriggers se he s).shiftEn = he := rfl
@[simp] theorem setTriggers_startPend (se he : Bool) : (setTriggers se he s).startPend = s.startPend := rfl
@[simp] theorem setTriggers_shiftPend (se he : Bool) : (setTriggers se he s).shiftPend = s.shiftPend := rfl
@[simp] theorem setTriggers_irqInh (se he : Bool) : (setTriggers se he s).irqInh = s.irqInh := rfl
@[simp] theorem setTriggers_ackedLow (se he : Bool) : (setTriggers se he s).ackedLow = s.ackedLow := rfl
@[simp] theorem setTriggers_busResult (se he : Bool) : (setTriggers se he s).busResult = s.busResult := rfl
@[simp] theorem setTriggers_hostResult (se he : Bool) : (setTriggers se he s).hostResult = s.hostResult := rfl
@[simp] theorem setTriggers_unitResult (se he : Bool) : (setTriggers se he s).unitResult = s.unitResult := rfl
@[simp] theorem setTriggers_freeIdx (se he : Bool) : (setTriggers se he s).freeIdx = s.freeIdx := rfl
@[simp] theorem setTriggers_inputs (se he : Bool) : (setTriggers se he s).inputs = s.inputs := rfl

@[simp] theorem setPstate_cfg (p : PState) : (setPstate p s).cfg = s.cfg := rfl
@[simp] theorem setPstate_addr (p : PState) : (setPstate p s).addr = s.addr := rfl
@[simp] theorem setPstate_rxbuf (p : PState) : (setPstate p s).rxbuf = s.rxbuf := rfl
@[simp] theorem setPstate_rxcur (p : PState) : (setPstate p s).rxcur = s.rxcur := rfl
@[simp] theorem setPstate_txbuf (p : PState) : (setPstate p s).txbuf = s.txbuf := rfl
@[simp] theorem setPstate_txcur (p : PState) : (setPstate p s).txcur = s.txcur := rfl
@[simp] theorem setPstate_pstate (p : PState) : (setPstate p s).pstate = p := rfl
@[simp] theorem setPstate_frameStarted (p : PState) : (setPstate p s).frameStarted = s.frameStarted := rfl
@[simp] theorem setPstate_byteReceived (p : PState) : (setPstate p s).byteReceived = s.byteReceived := rfl
@[simp] theorem setPstate_sr (p : PState) : (setPstate p s).sr = s.sr := rfl
@[simp] theorem setPstate_cnt (p : PState) : (setPstate p s).cnt = s.cnt := rfl
@[simp] theorem setPstate_sdaDir (p : PState) : (setPstate p s).sdaDir = s.sdaDir := rfl
@[simp] theorem setPstate_startEn (p : PState) : (setPstate p s).startEn = s.startEn := rfl
@[simp] theorem setPstate_shiftEn (p : PState) : (setPstate p s).shiftEn = s.shiftEn := rfl
@[simp] theorem setPstate_startPend (p : PState) : (setPstate p s).startPend = s.startPend := rfl
@[simp] theorem setPstate_shiftPend (p : PState) : (setPstate p s).shiftPend = s.shiftPend := rfl
@[simp] theorem setPstate_irqInh (p : PState) : (setPstate p s).irqInh = s.irqInh := rfl
@[simp] theorem setPstate_ackedLow (p : PState) : (setPstate p s).ackedLow = s.ackedLow := rfl
@[simp] theorem setPstate_busResult (p : PState) : (setPstate p s).busResult = s.busResult := rfl
@[simp] theorem setPstate_hostResult (p : PState) : (setPstate p s).hostResult = s.hostResult := rfl
@[simp] theorem setPstate_unitResult (p : PState) : (setPstate p s).unitResult = s.unitResult := rfl
@[simp] theorem setPstate_freeIdx (p : PState) : (setPstate p s).freeIdx = s.freeIdx := rfl
@[simp] theorem setPstate_inputs (p : PState) : (setPstate p s).inputs = s.inputs := rfl

@[simp] theorem setRxcur_cfg (n : Nat) : (setRxcur n s).cfg = s.cfg := rfl
@[simp] theorem setRxcur_addr (n : Nat) : (setRxcur n s).addr = s.addr := rfl
@[simp] theorem setRxcur_rxbuf (n : Nat) : (setRxcur n s).rxbuf = s.rxbuf := rfl
@[simp] theorem setRxcur_rxcur (n : Nat) : (setRxcur n s).rxcur = n := rfl
@[simp] theorem setRxcur_txbuf (n : Nat) : (setRxcur n s).txbuf = s.txbuf := rfl
@[simp] theorem setRxcur_txcur (n : Nat) : (setRxcur n s).txcur = s.txcur := rfl
@[simp] theorem setRxcur_pstate (n : Nat) : (setRxcur n s).pstate = s.pstate := rfl
@[simp] theorem setRxcur_frameStarted (n : Nat) : (setRxcur n s).frameStarted = s.frameStarted := rfl
@[simp] theorem setRxcur_byteReceived (n : Nat) : (setRxcur n s).byteReceived = s.byteReceived := rfl
@[simp] theorem setRxcur_sr (n : Nat) : (setRxcur n s).sr = s.sr := rfl
@[simp] theorem setRxcur_cnt (n : Nat) : (setRxcur n s).cnt = s.cnt := rfl
@[simp] theorem setRxcur_sdaDir (n : Nat) : (setRxcur n s).sdaDir = s.sdaDir := rfl
@[simp] theorem setRxcur_startEn (n : Nat) : (setRxcur n s).startEn = s.startEn := rfl
@[simp] theorem setRxcur_shiftEn (n : Nat) : (setRxcur n s).shiftEn = s.shiftEn := rfl
@[simp] theorem setRxcur_startPend (n : Nat) : (setRxcur n s).startPend = s.startPend := rfl
@[simp] theorem setRxcur_shiftPend (n : Nat) : (setRxcur n s).shiftPend = s.shiftPend := rfl
@[simp] theorem setRxcur_irqInh (n : Nat) : (setRxcur n s).irqInh = s.irqInh := rfl
@[simp] theorem setRxcur_ackedLow (n : Nat) : (setRxcur n s).ackedLow = s.ackedLow := rfl
@[simp] theorem setRxcur_busResult (n : Nat) : (setRxcur n s).busResult = s.busResult := rfl
@[simp] theorem setRxcur_hostResult (n : Nat) : (setRxcur n s).hostResult = s.hostResult := rfl
@[simp] theorem setRxcur_unitResult (n : Nat) : (setRxcur n s).unitResult = s.unitResult := rfl
@[simp] theorem setRxcur_freeIdx (n : Nat) : (setRxcur n s).freeIdx = s.freeIdx := rfl
@[simp] theorem setRxcur_inputs (n : Nat) : (setRxcur n s).inputs = s.inputs := rfl

@[simp] theorem setTxcur_cfg (n : Nat) : (setTxcur n s).cfg = s.cfg := rfl
@[simp] theorem setTxcur_addr (n : Nat) : (setTxcur n s).addr = s.addr := rfl
@[simp] theorem setTxcur_rxbuf (n : Nat) : (setTxcur n s).rxbuf = s.rxbuf := rfl
@[simp] theorem setTxcur_rxcur (n : Nat) : (setTxcur n s).rxcur = s.rxcur := rfl
@[simp] theorem setTxcur_txbuf (n : Nat) : (setTxcur n s).txbuf = s.txbuf := rfl
@[simp] theorem setTxcur_txcur (n : Nat) : (setTxcur n s).txcur = n := rfl
@[simp] theorem setTxcur_pstate (n : Nat) : (setTxcur n s).pstate = s.pstate := rfl
@[simp] theorem setTxcur_frameStarted (n : Nat) : (setTxcur n s).frameStarted = s.frameStarted := rfl
@[simp] theorem setTxcur_byteReceived (n : Nat) : (setTxcur n s).byteReceived = s.byteReceived := rfl
@[simp] theorem setTxcur_sr (n : Nat) : (setTxcur n s).sr = s.sr := rfl
@[simp] theorem setTxcur_cnt (n : Nat) : (setTxcur n s).cnt = s.cnt := rfl
@[simp] theorem setTxcur_sdaDir (n : Nat) : (setTxcur n s).sdaDir = s.sdaDir := rfl
@[simp] theorem setTxcur_startEn (n : Nat) : (setTxcur n s).startEn = s.startEn := rfl
@[simp] theorem setTxcur_shiftEn (n : Nat) : (setTxcur n s).shiftEn = s.shiftEn := rfl
@[simp] theorem setTxcur_startPend (n : Nat) : (setTxcur n s).startPend = s.startPend := rfl
@[simp] theorem setTxcur_shiftPend (n : Nat) : (setTxcur n s).shiftPend = s.shiftPend := rfl
@[simp] theorem setTxcur_irqInh (n : Nat) : (setTxcur n s).irqInh = s.irqInh := rfl
@[simp] theorem setTxcur_ackedLow (n : Nat) : (setTxcur n s).ackedLow = s.ackedLow := rfl
@[simp] theorem setTxcur_busResult (n : Nat) : (setTxcur n s).busResult = s.busResult := rfl
@[simp] theorem setTxcur_hostResult (n : Nat) : (setTxcur n s).hostResult = s.hostResult := rfl
@[simp] theorem setTxcur_unitResult (n : Nat) : (setTxcur n s).unitResult = s.unitResult := rfl
@[simp] theorem setTxcur_freeIdx (n : Nat) : (setTxcur n s).freeIdx = s.freeIdx := rfl
@[simp] theorem setTxcur_inputs (n : Nat) : (setTxcur n s).inputs = s.inputs := rfl

@[simp] theorem noteSent_cfg (b : Byte) : (noteSent b s).cfg = s.cfg := rfl
@[simp] theorem noteSent_addr (b : Byte) : (noteSent b s).addr = s.addr := rfl
@[simp] theorem noteSent_rxbuf (b : Byte) : (noteSent b s).rxbuf = s.rxbuf := rfl
@[simp] theorem noteSent_rxcur (b : Byte) : (noteSent b s).rxcur = s.rxcur := rfl
@[simp] theorem noteSent_txbuf (b : Byte) : (noteSent b s).txbuf = s.txbuf := rfl
@[simp] theorem noteSent_txcur (b : Byte) : (noteSent b s).txcur = s.txcur := rfl
@[simp] theorem noteSent_pstate (b : Byte) : (noteSent b s).pstate = s.pstate := rfl
@[simp] theorem noteSent_frameStarted (b : Byte) : (noteSent b s).frameStarted = s.frameStarted := rfl
@[simp] theorem noteSent_byteReceived (b : Byte) : (noteSent b s).byteReceived = s.byteReceived := rfl
@[simp] theorem noteSent_sr (b : Byte) : (noteSent b s).sr = s.sr := rfl
@[simp] theorem noteSent_cnt (b : Byte) : (noteSent b s).cnt = s.cnt := rfl
@[simp] theorem noteSent_sdaDir (b : Byte) : (noteSent b s).sdaDir = s.sdaDir := rfl
@[simp] theorem noteSent_startEn (b : Byte) : (noteSent b s).startEn = s.startEn := rfl
@[simp] theorem noteSent_shiftEn (b : Byte) : (noteSent b s).shiftEn = s.shiftEn := rfl
@[simp] theorem noteSent_startPend (b : Byte) : (noteSent b s).startPend = s.startPend := rfl
@[simp] theorem noteSent_shiftPend (b : Byte) : (noteSent b s).shiftPend = s.shiftPend := rfl
@[simp] theorem noteSent_irqInh (b : Byte) : (noteSent b s).irqInh = s.irqInh := rfl
@[simp] theorem noteSent_ackedLow (b : Byte) : (noteSent b s).ackedLow = (decide (s.pstate = .checkReplyForSend) && !b.getLsbD 7) := rfl
@[simp] theorem noteSent_busResult (b : Byte) : (noteSent b s).busResult = s.busResult := rfl
@[simp] theorem noteSent_hostResult (b : Byte) : (noteSent b s).hostResult = s.hostResult := rfl
@[simp] theorem noteSent_unitResult (b : Byte) : (noteSent b s).unitResult = s.unitResult := rfl
@[simp] theorem noteSent_freeIdx (b : Byte) : (noteSent b s).freeIdx = s.freeIdx := rfl
@[simp] theorem noteSent_inputs (b : Byte) : (noteSent b s).inputs = s.inputs := rfl

@[simp] theorem sendByte_cfg (b : Byte) : (sendByte b s).cfg = s.cfg := rfl
@[simp] theorem sendByte_addr (b : Byte) : (sendByte b s).addr = s.addr := rfl
@[simp] theorem sendByte_rxbuf (b : Byte) : (sendByte b s).rxbuf = s.rxbuf := rfl
@[simp] theorem sendByte_rxcur (b : Byte) : (sendByte b s).rxcur = s.rxcur := rfl
@[simp] theorem sendByte_txbuf (b : Byte) : (sendByte b s).txbuf = s.txbuf := rfl
@[simp] theorem sendByte_txcur (b : Byte) : (sendByte b s).txcur = s.txcur := rfl
@[simp] theorem sendByte_pstate (b : Byte) : (sendByte b s).pstate = .requestReplyForSend := rfl
@[simp] theorem sendByte_frameStarted (b : Byte) : (sendByte b s).frameStarted = s.frameStarted := rfl
@[simp] theorem sendByte_byteReceived (b : Byte) : (sendByte b s).byteReceived = s.byteReceived := rfl
@[simp] theorem sendByte_sr (b : Byte) : (sendByte b s).sr = b := rfl
@[simp] theorem sendByte_cnt (b : Byte) : (sendByte b s).cnt = 8 := rfl
@[simp] theorem sendByte_sdaDir (b : Byte) : (sendByte b s).sdaDir = .output := rfl
@[simp] theorem sendByte_startEn (b : Byte) : (sendByte b s).startEn = s.startEn := rfl
@[simp] theorem sendByte_shiftEn (b : Byte) : (sendByte b s).shiftEn = s.shiftEn := rfl
@[simp] theorem sendByte_startPend (b : Byte) : (sendByte b s).startPend = s.startPend := rfl
@[simp] theorem sendByte_shiftPend (b : Byte) : (sendByte b s).shiftPend = false := rfl
@[simp] theorem sendByte_irqInh (b : Byte) : (sendByte b s).irqInh = s.irqInh := rfl
@[simp] theorem sendByte_ackedLow (b : Byte) : (sendByte b s).ackedLow = (decide (s.pstate = .checkReplyForSend) && !b.getLsbD 7) := rfl
@[simp] theorem sendByte_busResult (b : Byte) : (sendByte b s).busResult = s.busResult := rfl
@[simp] theorem sendByte_hostResult (b : Byte) : (sendByte b s).hostResult = s.hostResult := rfl
@[simp] theorem sendByte_unitResult (b : Byte) : (sendByte b s).unitResult = s.unitResult := rfl
@[simp] theorem sendByte_freeIdx (b : Byte) : (sendByte b s).freeIdx = s.freeIdx := rfl
@[simp] theorem sendByte_inputs (b : Byte) : (sendByte b s).inputs = s.inputs := rfl

@[simp] theorem storeRx_cfg (v : Byte) : (storeRx v s).cfg = s.cfg := rfl
@[simp] theorem storeRx_addr (v : Byte) : (storeRx v s).addr = s.addr := rfl
@[simp] theorem storeRx_rxbuf (v : Byte) : (storeRx v s).rxbuf = Memory.write s.rxbuf s.rxcur v := rfl
@[simp] theorem storeRx_rxcur (v : Byte) : (storeRx v s).rxcur = s.rxcur + 1 := rfl
@[simp] theorem storeRx_txbuf (v : Byte) : (storeRx v s).txbuf = s.txbuf := rfl
@[simp] theorem storeRx_txcur (v : Byte) : (storeRx v s).txcur = s.txcur := rfl
@[simp] theorem storeRx_pstate (v : Byte) : (storeRx v s).pstate = s.pstate := rfl
@[simp] theorem storeRx_frameStarted (v : Byte) : (storeRx v s).frameStarted = s.frameStarted := rfl
@[simp] theorem storeRx_byteReceived (v : Byte) : (storeRx v s).byteReceived = s.byteReceived := rfl
@[simp] theorem storeRx_sr (v : Byte) : (storeRx v s).sr = s.sr := rfl
@[simp] theorem storeRx_cnt (v : Byte) : (storeRx v s).cnt = s.cnt := rfl
@[simp] theorem storeRx_sdaDir (v : Byte) : (storeRx v s).sdaDir = s.sdaDir := rfl
@[simp] theorem storeRx_startEn (v : Byte) : (storeRx v s).startEn = s.startEn := rfl
@[simp] theorem storeRx_shiftEn (v : Byte) : (storeRx v s).shiftEn = s.shiftEn := rfl
@[simp] theorem storeRx_startPend (v : Byte) : (storeRx v s).startPend = s.startPend := rfl
@[simp] theorem storeRx_shiftPend (v : Byte) : (storeRx v s).shiftPend = s.shiftPend := rfl
@[simp] theorem storeRx_irqInh (v : Byte) : (storeRx v s).irqInh = s.irqInh := rfl
@[simp] theorem storeRx_ackedLow (v : Byte) : (storeRx v s).ackedLow = s.ackedLow := rfl
@[simp] theorem storeRx_busResult (v : Byte) : (storeRx v s).busResult = s.busResult := rfl
@[simp] theorem storeRx_hostResult (v : Byte) : (storeRx v s).hostResult = s.hostResult := rfl
@[simp] theorem storeRx_unitResult (v : Byte) : (storeRx v s).unitResult = s.unitResult := rfl
@[simp] theorem storeRx_freeIdx (v : Byte) : (storeRx v s).freeIdx = s.freeIdx := rfl
@[simp] theorem storeRx_inputs (v : Byte) : (storeRx v s).inputs = s.inputs := rfl

@[simp] theorem flagsOnStore_cfg : (flagsOnStore s).cfg = s.cfg := rfl
@[simp] theorem flagsOnStore_addr : (flagsOnStore s).addr = s.addr := rfl
@[simp] theorem flagsOnStore_rxbuf : (flagsOnStore s).rxbuf = s.rxbuf := rfl
@[simp] theorem flagsOnStore_rxcur : (flagsOnStore s).rxcur = s.rxcur := rfl
@[simp] theorem flagsOnStore_txbuf : (flagsOnStore s).txbuf = s.txbuf := rfl
@[simp] theorem flagsOnStore_txcur : (flagsOnStore s).txcur = s.txcur := rfl
@[simp] theorem flagsOnStore_pstate : (flagsOnStore s).pstate = s.pstate := rfl
@[simp] theorem flagsOnStore_frameStarted : (flagsOnStore s).frameStarted = (s.frameStarted || decide (s.rxcur = 0)) := rfl
@[simp] theorem flagsOnStore_byteReceived : (flagsOnStore s).byteReceived = true := rfl
@[simp] theorem flagsOnStore_sr : (flagsOnStore s).sr = s.sr := rfl
@[simp] theorem flagsOnStore_cnt : (flagsOnStore s).cnt = s.cnt := rfl
@[simp] theorem flagsOnStore_sdaDir : (flagsOnStore s).sdaDir = s.sdaDir := rfl
@[simp] theorem flagsOnStore_startEn : (flagsOnStore s).startEn = s.startEn := rfl
@[simp] theorem flagsOnStore_shiftEn : (flagsOnStore s).shiftEn = s.shiftEn := rfl
@[simp] theorem flagsOnStore_startPend : (flagsOnStore s).startPend = s.startPend := rfl
@[simp] theorem flagsOnStore_shiftPend : (flagsOnStore s).shiftPend = s.shiftPend := rfl
@[simp] theorem flagsOnStore_irqInh : (flagsOnStore s).irqInh = s.irqInh := rfl
@[simp] theorem flagsOnStore_ackedLow : (flagsOnStore s).ackedLow = s.ackedLow := rfl
@[simp] theorem flagsOnStore_busResult : (flagsOnStore s).busResult = s.busResult := rfl
@[simp] theorem flagsOnStore_hostResult : (flagsOnStore s).hostResult = s.hostResult := rfl
@[simp] theorem flagsOnStore_unitResult : (flagsOnStore s).unitResult = s.unitResult := rfl
@[simp] theorem flagsOnStore_freeIdx : (flagsOnStore s).freeIdx = s.freeIdx := rfl
@[simp] theorem flagsOnStore_inputs : (flagsOnStore s).inputs = s.inputs := rfl

@[simp] theorem flagsOnDiscard_cfg : (flagsOnDiscard s).cfg = s.cfg := rfl
@[simp] theorem flagsOnDiscard_addr : (flagsOnDiscard s).addr = s.addr := rfl
@[simp] theorem flagsOnDiscard_rxbuf : (flagsOnDiscard s).rxbuf = s.rxbuf := rfl
@[simp] theorem flagsOnDiscard_rxcur : (flagsOnDiscard s).rxcur = s.rxcur := rfl
@[simp] theorem flagsOnDiscard_txbuf : (flagsOnDiscard s).txbuf = s.txbuf := rfl
@[simp] theorem flagsOnDiscard_txcur : (flagsOnDiscard s).txcur = s.txcur := rfl
@[simp] theorem flagsOnDiscard_pstate : (flagsOnDiscard s).pstate = s.pstate := rfl
@[simp] theorem flagsOnDiscard_frameStarted : (flagsOnDiscard s).frameStarted = s.frameStarted := rfl
@[simp] theorem flagsOnDiscard_byteReceived : (flagsOnDiscard s).byteReceived = (s.byteReceived || s.cfg.rxFlagOnDiscard) := rfl
@[simp] theorem flagsOnDiscard_sr : (flagsOnDiscard s).sr = s.sr := rfl
@[simp] theorem flagsOnDiscard_cnt : (flagsOnDiscard s).cnt = s.cnt := rfl
@[simp] theorem flagsOnDiscard_sdaDir : (flagsOnDiscard s).sdaDir = s.sdaDir := rfl
@[simp] theorem flagsOnDiscard_startEn : (flagsOnDiscard s).startEn = s.startEn := rfl
@[simp] theorem flagsOnDiscard_shiftEn : (flagsOnDiscard s).shiftEn = s.shiftEn := rfl
@[simp] theorem flagsOnDiscard_startPend : (flagsOnDiscard s).startPend = s.startPend := rfl
@[simp] theorem flagsOnDiscard_shiftPend : (flagsOnDiscard s).shiftPend = s.shiftPend := rfl
@[simp] theorem flagsOnDiscard_irqInh : (flagsOnDiscard s).irqInh = s.irqInh := rfl
@[simp] theorem flagsOnDiscard_ackedLow : (flagsOnDiscard s).ackedLow = s.ackedLow := rfl
@[simp] theorem flagsOnDiscard_busResult : (flagsOnDiscard s).busResult = s.busResult := rfl
@[simp] theorem flagsOnDiscard_hostResult : (flagsOnDiscard s).hostResult = s.hostResult := rfl
@[simp] theorem flagsOnDiscard_unitResult : (flagsOnDiscard s).unitResult = s.unitResult := rfl
@[simp] theorem flagsOnDiscard_freeIdx : (flagsOnDiscard s).freeIdx = s.freeIdx := rfl
@[simp] theorem flagsOnDiscard_inputs : (flagsOnDiscard s).inputs = s.inputs := rfl

@[simp] theorem clearFrameStarted_cfg : (clearFrameStarted s).cfg = s.cfg := rfl
@[simp] theorem clearFrameStarted_addr : (clearFrameStarted s).addr = s.addr := rfl
@[simp] theorem clearFrameStarted_rxbuf : (clearFrameStarted s).rxbuf = s.rxbuf := rfl
@[simp] theorem clearFrameStarted_rxcur : (clearFrameStarted s).rxcur = s.rxcur := rfl
@[simp] theorem clearFrameStarted_txbuf : (clearFrameStarted s).txbuf = s.txbuf := rfl
@[simp] theorem clearFrameStarted_txcur : (clearFrameStarted s).txcur = s.txcur := rfl
@[simp] theorem clearFrameStarted_pstate : (clearFrameStarted s).pstate = s.pstate := rfl
@[simp] theorem clearFrameStarted_frameStarted : (clearFrameStarted s).frameStarted = false := rfl
@[simp] theorem clearFrameStarted_byteReceived : (clearFrameStarted s).byteReceived = s.byteReceived := rfl
@[simp] theorem clearFrameStarted_sr : (clearFrameStarted s).sr = s.sr := rfl
@[simp] theorem clearFrameStarted_cnt : (clearFrameStarted s).cnt = s.cnt := rfl
@[simp] theorem clearFrameStarted_sdaDir : (clearFrameStarted s).sdaDir = s.sdaDir := rfl
@[simp] theorem clearFrameStarted_startEn : (clearFrameStarted s).startEn = s.startEn := rfl
@[simp] theorem clearFrameStarted_shiftEn : (clearFrameStarted s).shiftEn = s.shiftEn := rfl
@[simp] theorem clearFrameStarted_startPend : (clearFrameStarted s).startPend = s.startPend := rfl
@[simp] theorem clearFrameStarted_shiftPend : (clearFrameStarted s).shiftPend = s.shiftPend := rfl
@[simp] theorem clearFrameStarted_irqInh : (clearFrameStarted s).irqInh = s.irqInh := rfl
@[simp] theorem clearFrameStarted_ackedLow : (clearFrameStarted s).ackedLow = s.ackedLow := rfl
@[simp] theorem clearFrameStarted_busResult : (clearFrameStarted s).busResult = s.busResult := rfl
@[simp] theorem clearFrameStarted_hostResult : (clearFrameStarted s).hostResult = s.hostResult := rfl
@[simp] theorem clearFrameStarted_unitResult : (clearFrameStarted s).unitResult = s.unitResult := rfl
@[simp] theorem clearFrameStarted_freeIdx : (clearFrameStarted s).freeIdx = s.freeIdx := rfl
@[simp] theorem clearFrameStarted_inputs : (clearFrameStarted s).inputs = s.inputs := rfl

@[simp] theorem clearByteReceived_cfg : (clearByteReceived s).cfg = s.cfg := rfl
@[simp] theorem clearByteReceived_addr : (clearByteReceived s).addr = s.addr := rfl
@[simp] theorem clearByteReceived_rxbuf : (clearByteReceived s).rxbuf = s.rxbuf := rfl
@[simp] theorem clearByteReceived_rxcur : (clearByteReceived s).rxcur = s.rxcur := rfl
@[simp] theorem clearByteReceived_txbuf : (clearByteReceived s).txbuf = s.txbuf := rfl
@[simp] theorem clearByteReceived_txcur : (clearByteReceived s).txcur = s.txcur := rfl
@[simp] theorem clearByteReceived_pstate : (clearByteReceived s).pstate = s.pstate := rfl
@[simp] theorem clearByteReceived_frameStarted : (clearByteReceived s).frameStarted = s.frameStarted := rfl
@[simp] theorem clearByteReceived_byteReceived : (clearByteReceived s).byteReceived = false := rfl
@[simp] theorem clearByteReceived_sr : (clearByteReceived s).sr = s.sr := rfl
@[simp] theorem clearByteReceived_cnt : (clearByteReceived s).cnt = s.cnt := rfl
@[simp] theorem clearByteReceived_sdaDir : (clearByteReceived s).sdaDir = s.sdaDir := rfl
@[simp] theorem clearByteReceived_startEn : (clearByteReceived s).startEn = s.startEn := rfl
@[simp] theorem clearByteReceived_shiftEn : (clearByteReceived s).shiftEn = s.shiftEn := rfl
@[simp] theorem clearByteReceived_startPend : (clearByteReceived s).startPend = s.startPend := rfl
@[simp] theorem clearByteReceived_shiftPend : (clearByteReceived s).shiftPend = s.shiftPend := rfl
@[simp] theorem clearByteReceived_irqInh : (clearByteReceived s).irqInh = s.irqInh := rfl
@[simp] theorem clearByteReceived_ackedLow : (clearByteReceived s).ackedLow = s.ackedLow := rfl
@[simp] theorem clearByteReceived_busResult : (clearByteReceived s).busResult = s.busResult := rfl
@[simp] theorem clearByteReceived_hostResult : (clearByteReceived s).hostResult = s.hostResult := rfl
@[simp] theorem clearByteReceived_unitResult : (clearByteReceived s).unitResult = s.unitResult := rfl
@[simp] theorem clearByteReceived_freeIdx : (clearByteReceived s).freeIdx = s.freeIdx := rfl
@[simp] theorem clearByteReceived_inputs : (clearByteReceived s).inputs = s.inputs := rfl

@[simp] theorem deliverHost_cfg (r : HostResult) : (deliverHost r s).cfg = s.cfg := rfl
@[simp] theorem deliverHost_addr (r : HostResult) : (deliverHost r s).addr = s.addr := rfl
@[simp] theorem deliverHost_rxbuf (r : HostResult) : (deliverHost r s).rxbuf = s.rxbuf := rfl
@[simp] theorem deliverHost_rxcur (r : HostResult) : (deliverHost r s).rxcur = s.rxcur := rfl
@[simp] theorem deliverHost_txbuf (r : HostResult) : (deliverHost r s).txbuf = s.txbuf := rfl
@[simp] theorem deliverHost_txcur (r : HostResult) : (deliverHost r s).txcur = s.txcur := rfl
@[simp] theorem deliverHost_pstate (r : HostResult) : (deliverHost r s).pstate = s.pstate := rfl
@[simp] theorem deliverHost_frameStarted (r : HostResult) : (deliverHost r s).frameStarted = s.frameStarted := rfl
@[simp] theorem deliverHost_byteReceived (r : HostResult) : (deliverHost r s).byteReceived = s.byteReceived := rfl
@[simp] theorem deliverHost_sr (r : HostResult) : (deliverHost r s).sr = s.sr := rfl
@[simp] theorem deliverHost_cnt (r : HostResult) : (deliverHost r s).cnt = s.cnt := rfl
@[simp] theorem deliverHost_sdaDir (r : HostResult) : (deliverHost r s).sdaDir = s.sdaDir := rfl
@[simp] theorem deliverHost_startEn (r : HostResult) : (deliverHost r s).startEn = s.startEn := rfl
@[simp] theorem deliverHost_shiftEn (r : HostResult) : (deliverHost r s).shiftEn = s.shiftEn := rfl
@[simp] theorem deliverHost_startPend (r : HostResult) : (deliverHost r s).startPend = s.startPend := rfl
@[simp] theorem deliverHost_shiftPend (r : HostResult) : (deliverHost r s).shiftPend = s.shiftPend := rfl
@[simp] theorem deliverHost_irqInh (r : HostResult) : (deliverHost r s).irqInh = s.irqInh := rfl
@[simp] theorem deliverHost_ackedLow (r : HostResult) : (deliverHost r s).ackedLow = s.ackedLow := rfl
@[simp] theorem deliverHost_busResult (r : HostResult) : (deliverHost r s).busResult = s.busResult := rfl
@[simp] theorem deliverHost_hostResult (r : HostResult) : (deliverHost r s).hostResult = some r := rfl
@[simp] theorem deliverHost_unitResult (r : HostResult) : (deliverHost r s).unitResult = s.unitResult := rfl
@[simp] theorem deliverHost_freeIdx (r : HostResult) : (deliverHost r s).freeIdx = s.freeIdx := rfl
@[simp] theorem deliverHost_inputs (r : HostResult) : (deliverHost r s).inputs = s.inputs := rfl

@[simp] theorem deliverUnit_cfg (r : UnitResult) : (deliverUnit r s).cfg = s.cfg := rfl
@[simp] theorem deliverUnit_addr (r : UnitResult) : (deliverUnit r s).addr = s.addr := rfl
@[simp] theorem deliverUnit_rxbuf (r : UnitResult) : (deliverUnit r s).rxbuf = s.rxbuf := rfl
@[simp] theorem deliverUnit_rxcur (r : UnitResult) : (deliverUnit r s).rxcur = s.rxcur := rfl
@[simp] theorem deliverUnit_txbuf (r : UnitResult) : (deliverUnit r s).txbuf = s.txbuf := rfl
@[simp] theorem deliverUnit_txcur (r : UnitResult) : (deliverUnit r s).txcur = s.txcur := rfl
@[simp] theorem deliverUnit_pstate (r : UnitResult) : (deliverUnit r s).pstate = s.pstate := rfl
@[simp] theorem deliverUnit_frameStarted (r : UnitResult) : (deliverUnit r s).frameStarted = s.frameStarted := rfl
@[simp] theorem deliverUnit_byteReceived (r : UnitResult) : (deliverUnit r s).byteReceived = s.byteReceived := rfl
@[simp] theorem deliverUnit_sr (r : UnitResult) : (deliverUnit r s).sr = s.sr := rfl
@[simp] theorem deliverUnit_cnt (r : UnitResult) : (deliverUnit r s).cnt = s.cnt := rfl
@[simp] theorem deliverUnit_sdaDir (r : UnitResult) : (deliverUnit r s).sdaDir = s.sdaDir := rfl
@[simp] theorem deliverUnit_startEn (r : UnitResult) : (deliverUnit r s).startEn = s.startEn := rfl
@[simp] theorem deliverUnit_shiftEn (r : UnitResult) : (deliverUnit r s).shiftEn = s.shiftEn := rfl
@[simp] theorem deliverUnit_startPend (r : UnitResult) : (deliverUnit r s).startPend = s.startPend := rfl
@[simp] theorem deliverUnit_shiftPend (r : UnitResult) : (deliverUnit r s).shiftPend = s.shiftPend := rfl
@[simp] theorem deliverUnit_irqInh (r : UnitResult) : (deliverUnit r s).irqInh = s.irqInh := rfl
@[simp] theorem deliverUnit_ackedLow (r : UnitResult) : (deliverUnit r s).ackedLow = s.ackedLow := rfl
@[simp] theorem deliverUnit_busResult (r : UnitResult) : (deliverUnit r s).busResult = s.busResult := rfl
@[simp] theorem deliverUnit_hostResult (r : UnitResult) : (deliverUnit r s).hostResult = s.hostResult := rfl
@[simp] theorem deliverUnit_unitResult (r : UnitResult) : (deliverUnit r s).unitResult = some r := rfl
@[simp] theorem deliverUnit_freeIdx (r : UnitResult) : (deliverUnit r s).freeIdx = s.freeIdx := rfl
@[simp] theorem deliverUnit_inputs (r : UnitResult) : (deliverUnit r s).inputs = s.inputs := rfl

@[simp] theorem ackArm_cfg : (ackArm s).cfg = s.cfg := rfl
@[simp] theorem ackArm_addr : (ackArm s).addr = s.addr := rfl
@[simp] theorem ackArm_rxbuf : (ackArm s).rxbuf = s.rxbuf := rfl
@[simp] theorem ackArm_rxcur : (ackArm s).rxcur = s.rxcur := rfl
@[simp] theorem ackArm_txbuf : (ackArm s).txbuf = s.txbuf := rfl
@[simp] theorem ackArm_txcur : (ackArm s).txcur = s.txcur := rfl
@[simp] theorem ackArm_pstate : (ackArm s).pstate = s.pstate := rfl
@[simp] theorem ackArm_frameStarted : (ackArm s).frameStarted = s.frameStarted := rfl
@[simp] theorem ackArm_byteReceived : (ackArm s).byteReceived = s.byteReceived := rfl
@[simp] theorem ackArm_sr : (ackArm s).sr = 0 := rfl
@[simp] theorem ackArm_cnt : (ackArm s).cnt = 1 := rfl
@[simp] theorem ackArm_sdaDir : (ackArm s).sdaDir = .output := rfl
@[simp] theorem ackArm_startEn : (ackArm s).startEn = s.startEn := rfl
@[simp] theorem ackArm_shiftEn : (ackArm s).shiftEn = s.shiftEn := rfl
@[simp] theorem ackArm_startPend : (ackArm s).startPend = s.startPend := rfl
@[simp] theorem ackArm_shiftPend : (ackArm s).shiftPend = false := rfl
@[simp] theorem ackArm_irqInh : (ackArm s).irqInh = s.irqInh := rfl
@[simp] theorem ackArm_ackedLow : (ackArm s).ackedLow = s.ackedLow := rfl
@[simp] theorem ackArm_busResult : (ackArm s).busResult = s.busResult := rfl
@[simp] theorem ackArm_hostResult : (ackArm s).hostResult = s.hostResult := rfl
@[simp] theorem ackArm_unitResult : (ackArm s).unitResult = s.unitResult := rfl
@[simp] theorem ackArm_freeIdx : (ackArm s).freeIdx = s.freeIdx := rfl
@[simp] theorem ackArm_inputs : (ackArm s).inputs = s.inputs := rfl

@[simp] theorem forceIdle_cfg : (forceIdle s).cfg = s.cfg := rfl
@[simp] theorem forceIdle_addr : (forceIdle s).addr = s.addr := rfl
@[simp] theorem forceIdle_rxbuf : (forceIdle s).rxbuf = s.rxbuf := rfl
@[simp] theorem forceIdle_rxcur : (forceIdle s).rxcur = s.rxcur := rfl
@[simp] theorem forceIdle_txbuf : (forceIdle s).txbuf = s.txbuf := rfl
@[simp] theorem forceIdle_txcur : (forceIdle s).txcur = s.txcur := rfl
@[simp] theorem forceIdle_pstate : (forceIdle s).pstate = s.pstate := rfl
@[simp] theorem forceIdle_frameStarted : (forceIdle s).frameStarted = s.frameStarted := rfl
@[simp] theorem forceIdle_byteReceived : (forceIdle s).byteReceived = s.byteReceived := rfl
@[simp] theorem forceIdle_sr : (forceIdle s).sr = s.sr := rfl
@[simp] theorem forceIdle_cnt : (forceIdle s).cnt = s.cnt := rfl
@[simp] theorem forceIdle_sdaDir : (forceIdle s).sdaDir = .input := rfl
@[simp] theorem forceIdle_startEn : (forceIdle s).startEn = true := rfl
@[simp] theorem forceIdle_shiftEn : (forceIdle s).shiftEn = false := rfl
@[simp] theorem forceIdle_startPend : (forceIdle s).startPend = s.startPend := rfl
@[simp] theorem forceIdle_shiftPend : (forceIdle s).shiftPend = false := rfl
@[simp] theorem forceIdle_irqInh : (forceIdle s).irqInh = s.irqInh := rfl
@[simp] theorem forceIdle_ackedLow : (forceIdle s).ackedLow = s.ackedLow := rfl
@[simp] theorem forceIdle_busResult : (forceIdle s).busResult = s.busResult := rfl
@[simp] theorem forceIdle_hostResult : (forceIdle s).hostResult = s.hostResult := rfl
@[simp] theorem forceIdle_unitResult : (forceIdle s).unitResult = s.unitResult := rfl
@[simp] theorem forceIdle_freeIdx : (forceIdle s).freeIdx = s.freeIdx := rfl
@[simp] theorem forceIdle_inputs : (forceIdle s).inputs = s.inputs := rfl

@[simp] theorem startDetector_cfg : (startDetector s).cfg = s.cfg := rfl
@[simp] theorem startDetector_addr : (startDetector s).addr = s.addr := rfl
@[simp] theorem startDetector_rxbuf : (startDetector s).rxbuf = s.rxbuf := rfl
@[simp] theorem startDetector_rxcur : (startDetector s).rxcur = s.rxcur := rfl
@[simp] theorem startDetector_txbuf : (startDetector s).txbuf = s.txbuf := rfl
@[simp] theorem startDetector_txcur : (startDetector s).txcur = s.txcur := rfl
@[simp] theorem startDetector_pstate : (startDetector s).pstate = .checkAddress := rfl
@[simp] theorem startDetector_frameStarted : (startDetector s).frameStarted = s.frameStarted := rfl
@[simp] theorem startDetector_byteReceived : (startDetector s).byteReceived = s.byteReceived := rfl
@[simp] theorem startDetector_sr : (startDetector s).sr = s.sr := rfl
@[simp] theorem startDetector_cnt : (startDetector s).cnt = 8 := rfl
@[simp] theorem startDetector_sdaDir : (startDetector s).sdaDir = .input := rfl
@[simp] theorem startDetector_startEn : (startDetector s).startEn = true := rfl
@[simp] theorem startDetector_shiftEn : (startDetector s).shiftEn = true := rfl
@[simp] theorem startDetector_startPend : (startDetector s).startPend = false := rfl
@[simp] theorem startDetector_shiftPend : (startDetector s).shiftPend = false := rfl
@[simp] theorem startDetector_irqInh : (startDetector s).irqInh = s.irqInh := rfl
@[simp] theorem startDetector_ackedLow : (startDetector s).ackedLow = s.ackedLow := rfl
@[simp] theorem startDetector_busResult : (startDetector s).busResult = s.busResult := rfl
@[simp] theorem startDetector_hostResult : (startDetector s).hostResult = s.hostResult := rfl
@[simp] theorem startDetector_unitResult : (startDetector s).unitResult = s.unitResult := rfl
@[simp] theorem startDetector_freeIdx : (startDetector s).freeIdx = s.freeIdx := rfl
@[simp] theorem startDetector_inputs : (startDetector s).inputs = s.inputs := rfl

@[simp] theorem requestReplyForSend_cfg : (requestReplyForSend s).cfg = s.cfg := rfl
@[simp] theorem requestReplyForSend_addr : (requestReplyForSend s).addr = s.addr := rfl
@[simp] theorem requestReplyForSend_rxbuf : (requestReplyForSend s).rxbuf = s.rxbuf := rfl
@[simp] theorem requestReplyForSend_rxcur : (requestReplyForSend s).rxcur = s.rxcur := rfl
@[simp] theorem requestReplyForSend_txbuf : (requestReplyForSend s).txbuf = s.txbuf := rfl
@[simp] theorem requestReplyForSend_txcur : (requestReplyForSend s).txcur = s.txcur + 1 := rfl
@[simp] theorem requestReplyForSend_pstate : (requestReplyForSend s).pstate = .checkReplyForSend := rfl
@[simp] theorem requestReplyForSend_frameStarted : (requestReplyForSend s).frameStarted = s.frameStarted := rfl
@[simp] theorem requestReplyForSend_byteReceived : (requestReplyForSend s).byteReceived = s.byteReceived := rfl
@[simp] theorem requestReplyForSend_sr : (requestReplyForSend s).sr = s.sr := rfl
@[simp] theorem requestReplyForSend_cnt : (requestReplyForSend s).cnt = 1 := rfl
@[simp] theorem requestReplyForSend_sdaDir : (requestReplyForSend s).sdaDir = .input := rfl
@[simp] theorem requestReplyForSend_startEn : (requestReplyForSend s).startEn = s.startEn := rfl
@[simp] theorem requestReplyForSend_shiftEn : (requestReplyForSend s).shiftEn = s.shiftEn := rfl
@[simp] theorem requestReplyForSend_startPend : (requestReplyForSend s).startPend = s.startPend := rfl
@[simp] theorem requestReplyForSend_shiftPend : (requestReplyForSend s).shiftPend = false := rfl
@[simp] theorem requestReplyForSend_irqInh : (requestReplyForSend s).irqInh = s.irqInh := rfl
@[simp] theorem requestReplyForSend_ackedLow : (requestReplyForSend s).ackedLow = s.ackedLow := rfl
@[simp] theorem requestReplyForSend_busResult : (requestReplyForSend s).busResult = s.busResult := rfl
@[simp] theorem requestReplyForSend_hostResult : (requestReplyForSend s).hostResult = s.hostResult := rfl
@[simp] theorem requestReplyForSend_unitResult : (requestReplyForSend s).unitResult = s.unitResult := rfl
@[simp] theorem requestReplyForSend_freeIdx : (requestReplyForSend s).freeIdx = s.freeIdx := rfl
@[simp] theorem requestReplyForSend_inputs : (requestReplyForSend s).inputs = s.inputs := rfl

@[simp] theorem requestData_cfg : (requestData s).cfg = s.cfg := rfl
@[simp] theorem requestData_addr : (requestData s).addr = s.addr := rfl
@[simp] theorem requestData_rxbuf : (requestData s).rxbuf = s.rxbuf := rfl
@[simp] theorem requestData_rxcur : (requestData s).rxcur = s.rxcur := rfl
@[simp] theorem requestData_txbuf : (requestData s).txbuf = s.txbuf := rfl
@[simp] theorem requestData_txcur : (requestData s).txcur = s.txcur := rfl
@[simp] theorem requestData_pstate : (requestData s).pstate = .getDataAndAck := rfl
@[simp] theorem requestData_frameStarted : (requestData s).frameStarted = s.frameStarted := rfl
@[simp] theorem requestData_byteReceived : (requestData s).byteReceived = s.byteReceived := rfl
@[simp] theorem requestData_sr : (requestData s).sr = s.sr := rfl
@[simp] theorem requestData_cnt : (requestData s).cnt = 8 := rfl
@[simp] theorem requestData_sdaDir : (requestData s).sdaDir = .input := rfl
@[simp] theorem requestData_startEn : (requestData s).startEn = s.startEn := rfl
@[simp] theorem requestData_shiftEn : (requestData s).shiftEn = s.shiftEn := rfl
@[simp] theorem requestData_startPend : (requestData s).startPend = s.startPend := rfl
@[simp] theorem requestData_shiftPend : (requestData s).shiftPend = false := rfl
@[simp] theorem requestData_irqInh : (requestData s).irqInh = s.irqInh := rfl
@[simp] theorem requestData_ackedLow : (requestData s).ackedLow = s.ackedLow := rfl
@[simp] theorem requestData_busResult : (requestData s).busResult = s.busResult := rfl
@[simp] theorem requestData_hostResult : (requestData s).hostResult = s.hostResult := rfl
@[simp] theorem requestData_unitResult : (requestData s).unitResult = s.unitResult := rfl
@[simp] theorem requestData_freeIdx : (requestData s).freeIdx = s.freeIdx := rfl
@[simp] theorem requestData_inputs : (requestData s).inputs = s.inputs := rfl

@[simp] theorem initialise_cfg : (initialise s).cfg = s.cfg := rfl
@[simp] theorem initialise_addr : (initialise s).addr = s.addr := rfl
@[simp] theorem initialise_rxbuf : (initialise s).rxbuf = s.rxbuf := rfl
@[simp] theorem initialise_rxcur : (initialise s).rxcur = s.rxcur := rfl
@[simp] theorem initialise_txbuf : (initialise s).txbuf = s.txbuf := rfl
@[simp] theorem initialise_txcur : (initialise s).txcur = s.txcur := rfl
@[simp] theorem initialise_pstate : (initialise s).pstate = s.pstate := rfl
@[simp] theorem initialise_frameStarted : (initialise s).frameStarted = s.frameStarted := rfl
@[simp] theorem initialise_byteReceived : (initialise s).byteReceived = s.byteReceived := rfl
@[simp] theorem initialise_sr : (initialise s).sr = s.sr := rfl
@[simp] theorem initialise_cnt : (initialise s).cnt = 0 := rfl
@[simp] theorem initialise_sdaDir : (initialise s).sdaDir = .input := rfl
@[simp] theorem initialise_startEn : (initialise s).startEn = true := rfl
@[simp] theorem initialise_shiftEn : (initialise s).shiftEn = false := rfl
@[simp] theorem initialise_startPend : (initialise s).startPend = false := rfl
@[simp] theorem initialise_shiftPend : (initialise s).shiftPend = false := rfl
@[simp] theorem initialise_irqInh : (initialise s).irqInh = s.irqInh := rfl
@[simp] theorem initialise_ackedLow : (initialise s).ackedLow = s.ackedLow := rfl
@[simp] theorem initialise_busResult : (initialise s).busResult = s.busResult := rfl
@[simp] theorem initialise_hostResult : (initialise s).hostResult = s.hostResult := rfl
@[simp] theorem initialise_unitResult : (initialise s).unitResult = s.unitResult := rfl
@[simp] theorem initialise_freeIdx : (initialise s).freeIdx = s.freeIdx := rfl
@[simp] theorem initialise_inputs : (initialise s).inputs = s.inputs := rfl

@[simp] theorem busStart_cfg : (busStart s).cfg = s.cfg := rfl
@[simp] theorem busStart_addr : (busStart s).addr = s.addr := rfl
@[simp] theorem busStart_rxbuf : (busStart s).rxbuf = s.rxbuf := rfl
@[simp] theorem busStart_rxcur : (busStart s).rxcur = s.rxcur := rfl
@[simp] theorem busStart_txbuf : (busStart s).txbuf = s.txbuf := rfl
@[simp] theorem busStart_txcur : (busStart s).txcur = s.txcur := rfl
@[simp] theorem busStart_pstate : (busStart s).pstate = s.pstate := rfl
@[simp] theorem busStart_frameStarted : (busStart s).frameStarted = s.frameStarted := rfl
@[simp] theorem busStart_byteReceived : (busStart s).byteReceived = s.byteReceived := rfl
@[simp] theorem busStart_sr : (busStart s).sr = s.sr := rfl
@[simp] theorem busStart_cnt : (busStart s).cnt = s.cnt := rfl
@[simp] theorem busStart_sdaDir : (busStart s).sdaDir = s.sdaDir := rfl
@[simp] theorem busStart_startEn : (busStart s).startEn = s.startEn := rfl
@[simp] theorem busStart_shiftEn : (busStart s).shiftEn = s.shiftEn := rfl
@[simp] theorem busStart_startPend : (busStart s).startPend = (s.startPend || s.startEn) := rfl
@[simp] theorem busStart_shiftPend : (busStart s).shiftPend = s.shiftPend := rfl
@[simp] theorem busStart_irqInh : (busStart s).irqInh = s.irqInh := rfl
@[simp] theorem busStart_ackedLow : (busStart s).ackedLow = s.ackedLow := rfl
@[simp] theorem busStart_busResult : (busStart s).busResult = s.busResult := rfl
@[simp] theorem busStart_hostResult : (busStart s).hostResult = s.hostResult := rfl
@[simp] theorem busStart_unitResult : (busStart s).unitResult = s.unitResult := rfl
@[simp] theorem busStart_freeIdx : (busStart s).freeIdx = s.freeIdx := rfl
@[simp] theorem busStart_inputs : (busStart s).inputs = s.inputs := rfl

@[simp] theorem busBit_cfg (m : Bool) : (busBit m s).cfg = s.cfg := rfl
@[simp] theorem busBit_addr (m : Bool) : (busBit m s).addr = s.addr := rfl
@[simp] theorem busBit_rxbuf (m : Bool) : (busBit m s).rxbuf = s.rxbuf := rfl
@[simp] theorem busBit_rxcur (m : Bool) : (busBit m s).rxcur = s.rxcur := rfl
@[simp] theorem busBit_txbuf (m : Bool) : (busBit m s).txbuf = s.txbuf := rfl
@[simp] theorem busBit_txcur (m : Bool) : (busBit m s).txcur = s.txcur := rfl
@[simp] theorem busBit_pstate (m : Bool) : (busBit m s).pstate = s.pstate := rfl
@[simp] theorem busBit_frameStarted (m : Bool) : (busBit m s).frameStarted = s.frameStarted := rfl
@[simp] theorem busBit_byteReceived (m : Bool) : (busBit m s).byteReceived = s.byteReceived := rfl
@[simp] theorem busBit_sr (m : Bool) : (busBit m s).sr = shiftIn s.sr (sdaLevel m s) := rfl
@[simp] theorem busBit_cnt (m : Bool) : (busBit m s).cnt = s.cnt - 1 := rfl
@[simp] theorem busBit_sdaDir (m : Bool) : (busBit m s).sdaDir = s.sdaDir := rfl
@[simp] theorem busBit_startEn (m : Bool) : (busBit m s).startEn = s.startEn := rfl
@[simp] theorem busBit_shiftEn (m : Bool) : (busBit m s).shiftEn = s.shiftEn := rfl
@[simp] theorem busBit_startPend (m : Bool) : (busBit m s).startPend = s.startPend := rfl
@[simp] theorem busBit_shiftPend (m : Bool) : (busBit m s).shiftPend = (s.shiftPend || (decide (s.cnt = 1) && s.shiftEn)) := rfl
@[simp] theorem busBit_irqInh (m : Bool) : (busBit m s).irqInh = s.irqInh := rfl
@[simp] theorem busBit_ackedLow (m : Bool) : (busBit m s).ackedLow = s.ackedLow := rfl
@[simp] theorem busBit_busResult (m : Bool) : (busBit m s).busResult = some (sdaLevel m s) := rfl
@[simp] theorem busBit_hostResult (m : Bool) : (busBit m s).hostResult = s.hostResult := rfl
@[simp] theorem busBit_unitResult (m : Bool) : (busBit m s).unitResult = s.unitResult := rfl
@[simp] theorem busBit_freeIdx (m : Bool) : (busBit m s).freeIdx = s.freeIdx := rfl
@[simp] theorem busBit_inputs (m : Bool) : (busBit m s).inputs = s.inputs := rfl

end Sys2Proof.Machine
end

