-- ==== Sys2Proof/Laws/Ops.lean ====
section
/-! SUPPORT. What the shared operations and the services can do, one lemma each, which later proofs cite. -/

namespace Sys2Proof.Machine

/-- When the Start Detector is enabled (41_start_detector.md R100). -/
theorem startReady_iff {s : State} :
    startReady s = true ↔ s.startPend = true ∧ s.startEn = true ∧ s.irqInh = false := by
  simp [startReady, and_assoc]

/-- When the Shift Engine is enabled (42_shift_engine.md R110). -/
theorem shiftReady_iff {s : State} :
    shiftReady s = true ↔
      s.shiftPend = true ∧ s.shiftEn = true ∧ s.startPend = false ∧ s.irqInh = false := by
  simp [shiftReady, and_assoc]

/-- When one action of the Shift Engine is the enabled service. -/
theorem actionReady_iff {p : PState} {s : State} :
    actionReady p s = true ↔ shiftReady s = true ∧ s.pstate = p := by
  simp [actionReady]

/-- The two services are never enabled together (60_exceptions.md R166, R170). -/
theorem not_startReady_of_shiftReady {s : State} (h : shiftReady s = true) : startReady s = false := by
  simp [startReady, (shiftReady_iff.mp h).2.2.1]

/-- The clock is held exactly while a trigger is pending (40_shift_unit_and_bus.md R89). -/
theorem hold_eq_false {s : State} : hold s = false ↔ s.startPend = false ∧ s.shiftPend = false := by
  simp [hold]

@[simp] theorem slaveSda_of_input {s : State} (h : s.sdaDir = .input) : slaveSda s = true := by
  simp [slaveSda, h]

@[simp] theorem slaveSda_of_output {s : State} (h : s.sdaDir = .output) : slaveSda s = s.sr.getLsbD 7 := by
  simp [slaveSda, h]

/-- When a byte keeps starts and stops away (70_reset_and_hazards.md R189, log 25). -/
theorem byteHeld_iff {s : State} :
    byteHeld s = true ↔ s.cfg.lowByteHoldsBus = true ∧ s.shiftEn = true ∧ s.sdaDir = .output ∧
      s.pstate = .requestReplyForSend ∧ 0 < s.cnt ∧ s.ackedLow = true := by
  simp [byteHeld, and_assoc]

/-- No byte keeps starts and stops away while the data line is an input. -/
@[simp] theorem byteHeld_of_input {s : State} (h : s.sdaDir = .input) : byteHeld s = false := by
  simp [byteHeld, h]

/-- No byte keeps starts and stops away while the shift trigger is disabled. -/
@[simp] theorem byteHeld_of_disabled {s : State} (h : s.shiftEn = false) : byteHeld s = false := by
  simp [byteHeld, h]

/-- LOAD_AND_ARM with a byte left to send (42_shift_engine.md R113). -/
theorem loadAndArm_of_lt {s : State} (h : s.txcur < s.cfg.cTx) :
    loadAndArm s = { s with
      sr := Memory.read s.txbuf s.txcur, sdaDir := .output, cnt := 8, shiftPend := false,
      pstate := .requestReplyForSend, 
      ackedLow := decide (s.pstate = .checkReplyForSend) && !(Memory.read s.txbuf s.txcur).getLsbD 7 } := by
  simp [loadAndArm, h, sendByte, setPstate, armGroup, setSdaDir, setSr, noteSent]

/-- LOAD_AND_ARM with the buffer exhausted (42_shift_engine.md R113). -/
theorem loadAndArm_of_ge {s : State} (h : s.cfg.cTx ≤ s.txcur) : loadAndArm s = forceIdle s := by
  simp [loadAndArm, Nat.not_lt.mpr h]

/-- CHECK_ADDRESS does one of three things (42_shift_engine.md R114). -/
theorem checkAddress_cases (v : Byte) (s : State) :
    (addrMatch v s.addr = false ∧ checkAddress v s = forceIdle s) ∨
    (addrMatch v s.addr = true ∧ lowBit v = false ∧
      checkAddress v s = setPstate .requestData (setRxcur 0 (ackArm s))) ∨
    (addrMatch v s.addr = true ∧ lowBit v = true ∧
      checkAddress v s = setPstate .sendData (setTxcur 0 (ackArm s))) := by
  unfold checkAddress
  cases addrMatch v s.addr <;> cases lowBit v <;> simp

/-- A received byte is stored or discarded (42_shift_engine.md R119). -/
theorem acceptByte_cases (v : Byte) (s : State) :
    (s.rxcur < s.cfg.cRx ∧ acceptByte v s = storeRx v (flagsOnStore s)) ∨
    (s.cfg.cRx ≤ s.rxcur ∧ acceptByte v s = flagsOnDiscard s) := by
  unfold acceptByte
  split
  · exact .inl ⟨‹_›, rfl⟩
  · exact .inr ⟨Nat.le_of_not_lt ‹_›, rfl⟩

/-- What the enabled service is (30_encoding.md R70). -/
theorem enabledService_cases (s : State) :
    (startReady s = true ∧ enabledService s = some (.svcStart s.pstate.code)) ∨
    (shiftReady s = true ∧ enabledService s = some s.pstate.action) ∨
    (startReady s = false ∧ shiftReady s = false ∧ enabledService s = none) := by
  unfold enabledService
  cases h : startReady s
  · cases h' : shiftReady s <;> simp
  · simp

/-- An enabled service never has a refusal: `exec` of it is the run of `serve`. -/
theorem exec_enabledService {s : State} {i : Instr} (h : enabledService s = some i) :
    exec i s = .next (serve s) := by
  rcases enabledService_cases s with ⟨h1, h2⟩ | ⟨h1, h2⟩ | ⟨-, -, h2⟩
  · rw [h2] at h; cases h
    simp [exec, execSvcStart, serve, h1]
  · rw [h2] at h; cases h
    have h0 := not_startReady_of_shiftReady h1
    cases hp : s.pstate <;>
      simp [PState.action, exec, execCheckAddress, execSendData, execRequestReplyForSend, execCheckReplyForSend,
        execRequestData, execGetDataAndAck, actionReady, serve, shiftComplete, h0, h1, hp]
  · rw [h2] at h; cases h

/-- Nothing is served where no service is enabled. -/
theorem serve_of_none {s : State} (h : enabledService s = none) : serve s = s := by
  rcases enabledService_cases s with ⟨-, h2⟩ | ⟨-, h2⟩ | ⟨h0, h1, -⟩
  · simp [h2] at h
  · simp [h2] at h
  · simp [serve, h0, h1]

/-- `serve` does one of eight things. -/
theorem serve_cases (s : State) :
    (enabledService s = none ∧ serve s = s) ∨
    (startReady s = true ∧ serve s = startDetector s) ∨
    (shiftReady s = true ∧ serve s = shiftComplete s.sr s) := by
  rcases enabledService_cases s with ⟨h1, -⟩ | ⟨h1, -⟩ | ⟨h0, h1, h2⟩
  · exact .inr (.inl ⟨h1, by simp [serve, h1]⟩)
  · exact .inr (.inr ⟨h1, by simp [serve, h1, not_startReady_of_shiftReady h1]⟩)
  · exact .inl ⟨h2, serve_of_none h2⟩

/-- One slot: the bus bit, then the enabled service; nothing while the clock is held. -/
theorem slot_eq_some {m : Bool} {s t : State} :
    slot m s = some t ↔ hold s = false ∧ t = serve (busBit m s) := by
  unfold slot
  cases hold s <;> simp [eq_comm]

@[simp] theorem slots_nil (s : State) : slots [] s = some s := rfl

theorem slots_cons (m : Bool) (ms : List Bool) (s : State) :
    slots (m :: ms) s = (slot m s).bind (slots ms) := by
  cases h : slot m s <;> simp [slots, h]

/-- A slot that does not end its group shifts and counts, and no service runs. -/
theorem slot_inside {m : Bool} {s : State} (hh : hold s = false) (hc : s.cnt ≠ 1) :
    slot m s = some (busBit m s) := by
  obtain ⟨h1, h2⟩ := hold_eq_false.mp hh
  refine slot_eq_some.mpr ⟨hh, (serve_of_none ?_).symm⟩
  simp [enabledService, startReady, shiftReady, h1, h2, hc]

/-- The slot that ends an armed group runs the Shift Engine on the shifted register. -/
theorem slot_last {m : Bool} {s : State} (hh : hold s = false) (hc : s.cnt = 1) (he : s.shiftEn = true)
    (hi : s.irqInh = false) :
    slot m s = some (shiftComplete (shiftIn s.sr (sdaLevel m s)) (busBit m s)) := by
  obtain ⟨h1, h2⟩ := hold_eq_false.mp hh
  refine slot_eq_some.mpr ⟨hh, ?_⟩
  simp [serve, startReady, shiftReady, h1, h2, hc, he, hi]

end Sys2Proof.Machine
end

