-- ==== Sys2Proof/Laws/PerInstr.lean ====
section
/-! SUPPORT. Per operation: the bytes the encoder writes hold the row's match value under its mask
(spec/opcode_table.json), and the format tag of the row's class. -/

namespace Sys2Proof.Laws.TableCode

/-- `(mask, match)` of the row, and the format tag of its class (30_encoding.md R61 to R71, log 7). -/
def row : Instr → Nat × Nat × Byte
  | .slaW _ => (0x01, 0x00, 1)
  | .slaR _ => (0x01, 0x01, 1)
  | .ack => (0x1, 0x0, 2)
  | .nack => (0x1, 0x1, 2)
  | .data _ => (0x00, 0x00, 3)
  | .svcStart _ => (0x8, 0x0, 4)
  | .checkAddress => (0xf, 0x8, 4)
  | .sendData => (0xf, 0x9, 4)
  | .requestReplyForSend => (0xf, 0xa, 4)
  | .checkReplyForSend => (0xf, 0xb, 4)
  | .requestData => (0xf, 0xc, 4)
  | .getDataAndAck => (0xf, 0xd, 4)
  | .ackArm => (0x00, 0x00, 5)
  | .forceIdle => (0x00, 0x00, 5)
  | .loadAndArm => (0x00, 0x00, 5)
  | .init => (0xf, 0x0, 0)
  | .setAddress _ => (0xf, 0x1, 0)
  | .rxRead _ => (0xf, 0x2, 0)
  | .rxcurRead => (0xf, 0x3, 0)
  | .txWrite _ _ => (0xf, 0x4, 0)
  | .txcurReset => (0xf, 0x5, 0)
  | .flagRead => (0xf, 0x6, 0)
  | .clrFrameStarted => (0xf, 0x7, 0)
  | .clrByteReceived => (0xf, 0x8, 0)
  | .irqDisable => (0xf, 0x9, 0)
  | .irqEnable => (0xf, 0xa, 0)
  | .srRead => (0x7, 0x0, 6)
  | .srWrite _ => (0x7, 0x1, 6)
  | .sdaDirSet _ => (0x7, 0x2, 6)
  | .arm _ => (0x7, 0x3, 6)
  | .trigSet _ _ => (0x7, 0x4, 6)
  | .lineRead => (0x7, 0x5, 6)
  | .busStart => (0x3, 0x0, 7)
  | .busBit _ => (0x3, 0x1, 7)
  | .busStop => (0x3, 0x2, 7)

/-- The encoding of `i` begins with a code that agrees with its row of the table and with the row's format tag. -/
def Statement (i : Instr) : Prop :=
  ∃ code rest, encode i = code :: (row i).2.2 :: rest ∧ code &&& BitVec.ofNat 8 (row i).1 = BitVec.ofNat 8 (row i).2.1

/-- A row whose code is fixed. -/
theorem fixed {i : Instr} {code : Byte} {rest : List Byte} (he : encode i = code :: (row i).2.2 :: rest)
    (hc : code &&& BitVec.ofNat 8 (row i).1 = BitVec.ofNat 8 (row i).2.1) : Statement i := ⟨code, rest, he, hc⟩

theorem slaW (a : Addr7) : Statement (.slaW a) := fixed rfl (by simp only [row, addrByte]; revert a; decide)
theorem slaR (a : Addr7) : Statement (.slaR a) := fixed rfl (by simp only [row, addrByte]; revert a; decide)
theorem ack : Statement .ack := fixed rfl (by decide)
theorem nack : Statement .nack := fixed rfl (by decide)
theorem data (d : Byte) : Statement (.data d) := fixed rfl (by simp [row])
theorem svcStart (sss : BitVec 3) : Statement (.svcStart sss) := fixed rfl (by simp only [row]; revert sss; decide)
theorem checkAddress : Statement .checkAddress := fixed rfl (by decide)
theorem sendData : Statement .sendData := fixed rfl (by decide)
theorem requestReplyForSend : Statement .requestReplyForSend := fixed rfl (by decide)
theorem checkReplyForSend : Statement .checkReplyForSend := fixed rfl (by decide)
theorem requestData : Statement .requestData := fixed rfl (by decide)
theorem getDataAndAck : Statement .getDataAndAck := fixed rfl (by decide)
theorem ackArm : Statement .ackArm := fixed rfl (by decide)
theorem forceIdle : Statement .forceIdle := fixed rfl (by decide)
theorem loadAndArm : Statement .loadAndArm := fixed rfl (by decide)
theorem init : Statement .init := fixed rfl (by decide)
theorem setAddress (a : Addr7) : Statement (.setAddress a) := fixed rfl (by simp [row])
theorem rxRead (i : Nat) : Statement (.rxRead i) := fixed rfl (by simp [row])
theorem rxcurRead : Statement .rxcurRead := fixed rfl (by decide)
theorem txWrite (i : Nat) (b : Byte) : Statement (.txWrite i b) := fixed rfl (by simp [row])
theorem txcurReset : Statement .txcurReset := fixed rfl (by decide)
theorem flagRead : Statement .flagRead := fixed rfl (by decide)
theorem clrFrameStarted : Statement .clrFrameStarted := fixed rfl (by decide)
theorem clrByteReceived : Statement .clrByteReceived := fixed rfl (by decide)
theorem irqDisable : Statement .irqDisable := fixed rfl (by decide)
theorem irqEnable : Statement .irqEnable := fixed rfl (by decide)
theorem srRead : Statement .srRead := fixed rfl (by decide)
theorem srWrite (b : Byte) : Statement (.srWrite b) := fixed rfl (by simp [row])
theorem sdaDirSet (d : Dir) : Statement (.sdaDirSet d) := by cases d <;> exact fixed rfl (by decide)
theorem arm (n : Nat) : Statement (.arm n) := fixed rfl (by simp [row])
theorem trigSet (se he : Bool) : Statement (.trigSet se he) := fixed rfl (by simp [row])
theorem lineRead : Statement .lineRead := fixed rfl (by decide)
theorem busStart : Statement .busStart := fixed rfl (by decide)
theorem busBit (m : Bool) : Statement (.busBit m) := fixed rfl (by simp [row])
theorem busStop : Statement .busStop := fixed rfl (by decide)

end Sys2Proof.Laws.TableCode
end

