-- ==== Sys2Proof/Laws/Step.lean ====
section
/-! SUPPORT. Everything one step of the machine can do, said once. -/

namespace Sys2Proof.Machine

/-- The block alone runs the enabled service or nothing. -/
theorem stepCore_eq (s : State) : stepCore s = .next (serve s) := by
  unfold stepCore
  cases h : enabledService s with
  | none => simp [serve_of_none h]
  | some i => simpa using exec_enabledService h

/-- The collaborator's next input stands in the queue, and what is left was there before. -/
theorem takeHost_sound {its rest : List Input} {it : Input} (h : takeHost its = some (it, rest)) :
    it.agent = .collaborator ∧ it ∈ its ∧ ∀ x ∈ rest, x ∈ its := by
  induction its generalizing rest with
  | nil => simp [takeHost] at h
  | cons jt its ih =>
    simp only [takeHost] at h
    split at h
    · simp only [Option.some.injEq, Prod.mk.injEq] at h
      obtain ⟨rfl, rfl⟩ := h
      exact ⟨‹_›, by simp, fun x hx => by simp [hx]⟩
    · simp only [Option.map_eq_some_iff, Prod.mk.injEq] at h
      obtain ⟨⟨k, r⟩, hk, rfl, rfl⟩ := h
      obtain ⟨h1, h2, h3⟩ := ih hk
      exact ⟨h1, List.mem_cons_of_mem _ h2, fun x hx => by
        rcases List.mem_cons.mp hx with rfl | hx
        · simp
        · simp [h3 x hx]⟩

/-- An input that answers a next state held an operation of its agent, which ran. -/
theorem runInput_eq_next {it : Input} {s t : State} (h : runInput it s = .next t) :
    ∃ i, decodeWhole it.bytes = .ok i ∧ i.agent = it.agent ∧ exec i s = .next t := by
  unfold runInput at h
  split at h
  · cases h
  · split at h
    · exact ⟨_, ‹_›, ‹_›, h⟩
    · cases h

/-- An input whose agent has the operation runs it. -/
theorem runInput_of_agent {it : Input} {i : Instr} (hd : decodeWhole it.bytes = .ok i)
    (ha : i.agent = it.agent) (s : State) : runInput it s = exec i s := by
  simp [runInput, hd, ha]

/-- An operation that its agent does not have is refused in every state (43_init_and_host_ops.md R151). -/
theorem runInput_of_other_agent {it : Input} {i : Instr} (hd : decodeWhole it.bytes = .ok i)
    (ha : i.agent ≠ it.agent) (s : State) : runInput it s = .refused .notOffered := by
  simp [runInput, hd, ha]

/-- The agents of the classes, from the agent's side. -/
theorem agent_eq_collaborator {i : Instr} : i.agent = .collaborator ↔ i.opClass = .host := by
  unfold Instr.agent
  cases i.opClass <;> simp [OpClass.agent]

/-- The environment's operations are the master's and the collaborator's. -/
theorem agent_ne_core {i : Instr} :
    i.agent ≠ .core ↔ i.opClass = .wire ∨ i.opClass = .bus ∨ i.opClass = .host := by
  unfold Instr.agent
  cases i.opClass <;> simp [OpClass.agent]

/-- A step that answers a next state served a trigger (or waited), or took one operation of its agent from the
queue. -/
theorem step_cases {s t : State} (h : step s = .next t) :
    t = serve s ∨
    ∃ it i rest, it ∈ s.inputs ∧ decodeWhole it.bytes = .ok i ∧ i.agent = it.agent ∧
      (∀ x ∈ rest, x ∈ s.inputs) ∧ exec i { s with inputs := rest } = .next t := by
  unfold step stepNext at h
  split at h
  · rw [stepCore_eq] at h; cases h; exact .inl rfl
  · rename_i it rest hq
    split at h
    · rw [stepCore_eq] at h; cases h; exact .inl rfl
    · unfold stepInput at h
      split at h
      · rename_i t' ht
        cases h
        obtain ⟨i, hd, ha, hx⟩ := runInput_eq_next ht
        exact .inr ⟨it, i, rest, by simp [hq], hd, ha, fun x hx => by simp [hq, hx], hx⟩
      · cases h
      · split at h
        · unfold stepWaiting at h
          split at h
          · rename_i svc hs
            rw [exec_enabledService hs] at h; cases h; exact .inl rfl
          · split at h
            · rename_i jt rest' hj
              obtain ⟨-, hm, h3⟩ := takeHost_sound hj
              obtain ⟨i, hd, ha, hx⟩ := runInput_eq_next h
              exact .inr ⟨jt, i, it :: rest', by simp [hq, hm], hd, ha, fun y hy => by
                rcases List.mem_cons.mp hy with rfl | hy
                · simp [hq]
                · simp [hq, h3 y hy], hx⟩
            · rename_i hn _ _
              cases h; exact .inl (serve_of_none hn).symm
        · cases h

/-- No step faults: the block has no fault (60_exceptions.md R160). -/
theorem step_not_fault (s : State) (f : Fault) : step s ≠ .fault f := nomatch f

end Sys2Proof.Machine
end

