-- ==== Sys2Proof/Laws/Wire.lean ====
section
/-! SUPPORT. The shift of `SR` bit by bit, address bytes, and sequences of bit slots. -/

namespace Sys2Proof.Machine

/-- A shift puts the new level at bit 0 and moves every other bit up by one (40_shift_unit_and_bus.md R91). -/
theorem shiftIn_getLsbD (r : Byte) (w : Bool) (i : Nat) :
    (shiftIn r w).getLsbD i = if i = 0 then w else decide (i < 8) && r.getLsbD (i - 1) := by
  show ((r.extractLsb' 0 7 ++ BitVec.ofBool w) : BitVec (7 + 1)).getLsbD i = _
  rw [BitVec.getLsbD_append]
  rcases i with _ | i <;> simp [BitVec.getLsbD_extractLsb']
  congr 1
  exact decide_eq_decide.mpr (by omega)

/-- A shift is doubling, with the new level added (42_shift_engine.md R122 (5)). -/
theorem shiftIn_toNat (r : Byte) (w : Bool) : shiftIn r w = BitVec.ofNat 8 (2 * r.toNat + w.toNat) := by
  cases w <;> revert r <;> decide

/-- Eight shifts of a byte's wire levels leave that byte, whatever the register held. -/
theorem foldl_shiftIn_wireBits (r v : Byte) : (wireBits v).foldl shiftIn r = v := by
  apply BitVec.eq_of_getLsbD_eq
  intro i hi
  have h : i = 0 ∨ i = 1 ∨ i = 2 ∨ i = 3 ∨ i = 4 ∨ i = 5 ∨ i = 6 ∨ i = 7 := by omega
  simp only [wireBits, List.foldl]
  rcases h with rfl | rfl | rfl | rfl | rfl | rfl | rfl | rfl <;> simp only [shiftIn_getLsbD] <;> simp

@[simp] theorem addrField_addrByte (a : Addr7) (d : Bool) : addrField (addrByte a d) = a := by
  cases d <;> revert a <;> decide

@[simp] theorem lowBit_addrByte (a : Addr7) (d : Bool) : lowBit (addrByte a d) = d := by
  cases d <;> revert a <;> decide

/-- `slots` is `observe` without the levels. -/
theorem slots_eq_observe (ms : List Bool) (s : State) : slots ms s = (observe ms s).map Prod.fst := by
  induction ms generalizing s with
  | nil => rfl
  | cons m ms ih =>
    rw [slots_cons, observe]
    cases slot m s with
    | none => rfl
    | some t => simp [ih, Function.comp_def]

/-- A transfer ends where its slots end. -/
theorem transfer_of_observe {ms ws : List Bool} {s t : State} (h : observe ms s = some (t, ws)) :
    transfer ms s = .next t := by
  simp [transfer, slots_eq_observe, h]

/-- The data line held low by the slave blocks both conditions (40_shift_unit_and_bus.md R90, R92). -/
theorem conditionBlocked_of_driven_low {s : State} (hh : hold s = false) (hd : s.sdaDir = .output)
    (h7 : s.sr.getLsbD 7 = false) : conditionBlocked s = some .dataLineLow := by
  have hl : slaveSda s = false := by rw [slaveSda_of_output hd, h7]
  simp [conditionBlocked, hh, hl]

/-- A byte acknowledged for that began with a 0 blocks both conditions until its slots are clocked
(70_reset_and_hazards.md R189). -/
theorem conditionBlocked_of_byteHeld {s : State} (hh : hold s = false) (hb : byteHeld s = true) :
    conditionBlocked s = some .dataLineLow := by
  simp [conditionBlocked, hh, hb]

/-- With clock and data line free and no such byte nothing blocks a condition (40_shift_unit_and_bus.md R90, R92). -/
theorem conditionBlocked_of_free {s : State} (hh : hold s = false) (hl : slaveSda s = true)
    (hb : byteHeld s = false) : conditionBlocked s = none := by
  simp [conditionBlocked, hh, hl, hb]

/-- A held clock blocks both conditions (40_shift_unit_and_bus.md R95). -/
theorem conditionBlocked_of_held {s : State} (hh : hold s = true) : conditionBlocked s = some .clockHeld := by
  simp [conditionBlocked, hh]

/-- Within a group no slot is held and no service runs: only `SR`, the count and the sampled level change. -/
theorem observe_within_group {ms : List Bool} {s : State} (hh : hold s = false) (hc : ms.length < s.cnt) :
    ∃ r w ws, observe ms s = some ({ s with sr := r, cnt := s.cnt - ms.length, busResult := w }, ws) := by
  induction ms generalizing s with
  | nil => exact ⟨s.sr, s.busResult, [], rfl⟩
  | cons m ms ih =>
    simp only [List.length_cons] at hc
    obtain ⟨h1, h2⟩ := hold_eq_false.mp hh
    have hp : (busBit m s).shiftPend = false := by simp [h2]; omega
    obtain ⟨r, w, ws, h⟩ := ih (s := busBit m s) (hold_eq_false.mpr ⟨h1, hp⟩) (by rw [busBit_cnt]; omega)
    refine ⟨r, w, sdaLevel m s :: ws, ?_⟩
    rw [observe, slot_inside hh (by omega)]
    simp only [h]
    simp [busBit, h2]
    omega

/-- Slots one after another. -/
theorem observe_append {ms ns ws vs : List Bool} {s t u : State} (h : observe ms s = some (t, ws))
    (h' : observe ns t = some (u, vs)) : observe (ms ++ ns) s = some (u, ws ++ vs) := by
  induction ms generalizing s ws with
  | nil =>
    simp only [observe, Option.some.injEq, Prod.mk.injEq] at h
    obtain ⟨rfl, rfl⟩ := h
    exact h'
  | cons m ms ih =>
    rw [observe] at h
    rw [List.cons_append, observe]
    cases hs : slot m s with
    | none => simp [hs] at h
    | some x =>
      simp only [hs, Option.map_eq_some_iff, Prod.mk.injEq] at h ⊢
      obtain ⟨⟨y, l⟩, hy, rfl, rfl⟩ := h
      exact ⟨(u, l ++ vs), ih hy, rfl, rfl⟩

end Sys2Proof.Machine
end

