-- ==== Sys2Proof/Tests/Slice0.lean ====
section
/-! SUPPORT. Tests of single operations and steps, expected values taken from the tables of 30_encoding.md and the
vectors of 95_test_vectors.md (named V), and a witness for the hypotheses of every statement that has some. -/

namespace Sys2Proof.Tests

open Sys2Proof.Machine

/-- The booted state `B` of 95_test_vectors.md. -/
def booted : State :=
  { State.resetWith Config.atReset PowerOn.named with
    addr := 0x54, txbuf := [(0, 0xA1), (1, 0xB2), (2, 0xC3), (3, 0xD4)], startEn := true }

/-- `B` at the completion of a group with `v` in `SR`. -/
def completed (p : PState) (v : Byte) : State := { booted with pstate := p, sr := v, shiftEn := true, shiftPend := true }

/-- `B` with a start pending. -/
def started : State := { booted with startPend := true }

/-- `B` with an 8-slot group into the block armed. -/
def receiving (p : PState) : State := { booted with pstate := p, cnt := 8, shiftEn := true }

/-- `B` with the byte `v` being sent. -/
def sending (v : Byte) : State :=
  { booted with pstate := .requestReplyForSend, cnt := 8, shiftEn := true, sdaDir := .output, sr := v }

/-- The Rx cursor placed. -/
def rxAt (n : Nat) (s : State) : State := { s with rxcur := n }

/-- The Tx cursor placed. -/
def txAt (n : Nat) (s : State) : State := { s with txcur := n }

/-- The block in its acknowledgement slot. -/
def acking (p : PState) : State := { receiving p with cnt := 1, sdaDir := .output }

/-- The block in the master's reply slot. -/
def replying : State := { receiving .checkReplyForSend with cnt := 1 }

/-- Power-on values that differ from the named ones. -/
def filled : PowerOn := { addr := 0x54, rxbuf := [(0, 0xEE)], txbuf := [(0, 0xA1)], pstate := .sendData, sr := 0x3C }

/-- An input as its agent gives it. -/
def input (i : Instr) : Input := { bytes := encode i, agent := i.agent, early := false }

/-- An input admitted before a service that could run. -/
def earlyInput (i : Instr) : Input := { bytes := encode i, agent := i.agent, early := true }

/-- An input that the collaborator presents, whatever the operation. -/
def attempt (i : Instr) : Input := { bytes := encode i, agent := .collaborator, early := false }

/-! ### Well-formedness -/

theorem test_wellFormed_refuses_arm_two : Instr.wellFormed (.arm 2) = false := by decide

theorem test_wellFormed_refuses_arm_zero : Instr.wellFormed (.arm 0) = false := by decide

theorem test_wellFormed_refuses_rxRead_index : Instr.wellFormed (.rxRead 4294967296) = false := by decide

theorem test_wellFormed_refuses_txWrite_index : Instr.wellFormed (.txWrite 4294967296 0x00) = false := by decide

/-! ### Decoding: the words of 30_encoding.md R61, R65, R66, R70, R71; tags, operand places and MICRO codes of log 7 -/

theorem test_decode_wire :
    decodeWhole [0b01010100, 1, 0, 0, 0, 0, 0] = .ok (.slaW 0x2A) ∧
    decodeWhole [0b11111110, 1, 0, 0, 0, 0, 0] = .ok (.slaW 0x7F) ∧
    decodeWhole [0b01010101, 1, 0, 0, 0, 0, 0] = .ok (.slaR 0x2A) ∧
    decodeWhole [0b0, 2, 0, 0, 0, 0, 0] = .ok .ack ∧
    decodeWhole [0b1, 2, 0, 0, 0, 0, 0] = .ok .nack ∧
    decodeWhole [0b10100001, 3, 0, 0, 0, 0, 0] = .ok (.data 0xA1) := by decide

theorem test_decode_svc :
    decodeWhole [0b0000, 4, 0, 0, 0, 0, 0] = .ok (.svcStart 0) ∧
    decodeWhole [0b0111, 4, 0, 0, 0, 0, 0] = .ok (.svcStart 7) ∧
    decodeWhole [0b1000, 4, 0, 0, 0, 0, 0] = .ok .checkAddress ∧
    decodeWhole [0b1001, 4, 0, 0, 0, 0, 0] = .ok .sendData ∧
    decodeWhole [0b1010, 4, 0, 0, 0, 0, 0] = .ok .requestReplyForSend ∧
    decodeWhole [0b1011, 4, 0, 0, 0, 0, 0] = .ok .checkReplyForSend ∧
    decodeWhole [0b1100, 4, 0, 0, 0, 0, 0] = .ok .requestData ∧
    decodeWhole [0b1101, 4, 0, 0, 0, 0, 0] = .ok .getDataAndAck ∧
    decodeWhole [0b1110, 4, 0, 0, 0, 0, 0] = .error .unassignedCode ∧
    decodeWhole [0b1111, 4, 0, 0, 0, 0, 0] = .error .unassignedCode := by decide

theorem test_decode_micro :
    decodeWhole [0, 5, 0, 0, 0, 0, 0] = .ok .ackArm ∧
    decodeWhole [1, 5, 0, 0, 0, 0, 0] = .ok .forceIdle ∧
    decodeWhole [2, 5, 0, 0, 0, 0, 0] = .ok .loadAndArm := by decide

theorem test_decode_host :
    decodeWhole [0b0000, 0, 0, 0, 0, 0, 0] = .ok .init ∧
    decodeWhole [0b0001, 0, 0x2A, 0, 0, 0, 0] = .ok (.setAddress 0x2A) ∧
    decodeWhole [0b0010, 0, 0, 3, 1, 0, 0] = .ok (.rxRead 259) ∧
    decodeWhole [0b0011, 0, 0, 0, 0, 0, 0] = .ok .rxcurRead ∧
    decodeWhole [0b0100, 0, 0x5A, 2, 0, 0, 0] = .ok (.txWrite 2 0x5A) ∧
    decodeWhole [0b0101, 0, 0, 0, 0, 0, 0] = .ok .txcurReset ∧
    decodeWhole [0b0110, 0, 0, 0, 0, 0, 0] = .ok .flagRead ∧
    decodeWhole [0b0111, 0, 0, 0, 0, 0, 0] = .ok .clrFrameStarted ∧
    decodeWhole [0b1000, 0, 0, 0, 0, 0, 0] = .ok .clrByteReceived ∧
    decodeWhole [0b1001, 0, 0, 0, 0, 0, 0] = .ok .irqDisable ∧
    decodeWhole [0b1010, 0, 0, 0, 0, 0, 0] = .ok .irqEnable ∧
    decodeWhole [0b1011, 0, 0, 0, 0, 0, 0] = .error .unassignedCode := by decide

theorem test_decode_periph :
    decodeWhole [0b000, 6, 0, 0, 0, 0, 0] = .ok .srRead ∧
    decodeWhole [0b001, 6, 0x3C, 0, 0, 0, 0] = .ok (.srWrite 0x3C) ∧
    decodeWhole [0b010, 6, 0, 0, 0, 0, 0] = .ok (.sdaDirSet .input) ∧
    decodeWhole [0b010, 6, 1, 0, 0, 0, 0] = .ok (.sdaDirSet .output) ∧
    decodeWhole [0b011, 6, 8, 0, 0, 0, 0] = .ok (.arm 8) ∧
    decodeWhole [0b100, 6, 0b01, 0, 0, 0, 0] = .ok (.trigSet true false) ∧
    decodeWhole [0b100, 6, 0b10, 0, 0, 0, 0] = .ok (.trigSet false true) ∧
    decodeWhole [0b101, 6, 0, 0, 0, 0, 0] = .ok .lineRead ∧
    decodeWhole [0b110, 6, 0, 0, 0, 0, 0] = .error .unassignedCode := by decide

theorem test_decode_bus :
    decodeWhole [0b00, 7, 0, 0, 0, 0, 0] = .ok .busStart ∧
    decodeWhole [0b01, 7, 0, 0, 0, 0, 0] = .ok (.busBit false) ∧
    decodeWhole [0b01, 7, 1, 0, 0, 0, 0] = .ok (.busBit true) ∧
    decodeWhole [0b10, 7, 0, 0, 0, 0, 0] = .ok .busStop ∧
    decodeWhole [0b11, 7, 0, 0, 0, 0, 0] = .error .unassignedCode := by decide

theorem test_decode_refuses :
    decodeWhole [0, 8, 0, 0, 0, 0, 0] = .error .unassignedFormat ∧
    decodeWhole [0b0000, 0, 1, 0, 0, 0, 0] = .error .operandBits ∧
    decodeWhole [0, 0, 0] = .error .truncated ∧
    decodeWhole [0, 0, 0, 0, 0, 0, 0, 0] = .error .trailing := by decide

/-! ### Class SVC -/

/-- V0.2. -/
theorem test_svcStart_releases_line :
    exec (.svcStart 2) { sending 0xC3 with txcur := 2, startPend := true } =
      .next { receiving .checkAddress with sr := 0xC3, txcur := 2 } := rfl

/-- V0.4. -/
theorem test_svcStart_drops_completion :
    step { completed .getDataAndAck 0x33 with rxcur := 1, startPend := true } =
      .next { receiving .checkAddress with sr := 0x33, rxcur := 1 } := rfl

/-- V1.1. -/
theorem test_checkAddress_write :
    exec .checkAddress { completed .checkAddress 0x54 with rxcur := 3 } =
      .next { booted with shiftEn := true, sdaDir := .output, cnt := 1, pstate := .requestData } := rfl

/-- V1.8 with direction read: bit 0 of `ADDR` is not compared. -/
theorem test_checkAddress_ignores_low_bit :
    exec .checkAddress { completed .checkAddress 0x55 with addr := 0x55, txcur := 2 } =
      .next { booted with addr := 0x55, shiftEn := true, sdaDir := .output, cnt := 1, pstate := .sendData } := rfl

/-- V2.1. -/
theorem test_sendData_loads :
    exec .sendData { completed .sendData 0x00 with sdaDir := .output } = .next (sending 0xA1) := rfl

/-- V2.2. -/
theorem test_sendData_exhausted :
    exec .sendData { completed .sendData 0x00 with sdaDir := .output, txcur := 4 } =
      .next { booted with pstate := .sendData, txcur := 4 } := rfl

/-- V3.2. -/
theorem test_requestReply_reaches_capacity :
    exec .requestReplyForSend { completed .requestReplyForSend 0xD4 with txcur := 3, sdaDir := .output } =
      .next { booted with pstate := .checkReplyForSend, sr := 0xD4, txcur := 4, cnt := 1, shiftEn := true } := rfl

/-- V4.5. -/
theorem test_checkReply_ack_low_bit_only :
    exec .checkReplyForSend { completed .checkReplyForSend 0xFE with txcur := 1 } =
      .next { sending 0xB2 with txcur := 1 } := rfl

/-- V4.2. -/
theorem test_checkReply_nack :
    exec .checkReplyForSend { completed .checkReplyForSend 0x43 with txcur := 1 } =
      .next { booted with pstate := .checkReplyForSend, sr := 0x43, txcur := 1 } := rfl

/-- V5.1. -/
theorem test_requestData :
    exec .requestData { completed .requestData 0x00 with sdaDir := .output } = .next (receiving .getDataAndAck) := rfl

/-- V6.2. -/
theorem test_getData_second_byte :
    exec .getDataAndAck { completed .getDataAndAck 0x22 with rxcur := 1, rxbuf := [(0, 0x11)] } =
      .next { booted with
        rxbuf := [(0, 0x11), (1, 0x22)], rxcur := 2, byteReceived := true, sdaDir := .output, cnt := 1,
        shiftEn := true, pstate := .requestData } := rfl

/-- V6.4. -/
theorem test_getData_discards :
    exec .getDataAndAck { completed .getDataAndAck 0x55 with rxcur := 4 } =
      .next { booted with rxcur := 4, sdaDir := .output, cnt := 1, shiftEn := true, pstate := .requestData } := rfl

/-! ### Class MICRO -/

theorem test_ackArm :
    exec .ackArm (completed .getDataAndAck 0x33) =
      .next { booted with pstate := .getDataAndAck, shiftEn := true, sdaDir := .output, cnt := 1 } := rfl

theorem test_forceIdle :
    exec .forceIdle { completed .sendData 0x07 with sdaDir := .output, startEn := false } =
      .next { booted with pstate := .sendData, sr := 0x07 } := rfl

theorem test_loadAndArm :
    exec .loadAndArm { completed .checkReplyForSend 0x00 with txcur := 3 } =
      .next { sending 0xD4 with txcur := 3 } := rfl

/-! ### Class HOST -/

/-- V8.16. -/
theorem test_init :
    exec .init { receiving .getDataAndAck with cnt := 5, rxcur := 2, frameStarted := true, startPend := true } =
      .next { booted with pstate := .getDataAndAck, rxcur := 2, frameStarted := true } := rfl

/-- V8.2. -/
theorem test_setAddress : exec (.setAddress 0x7F) booted = .next { booted with addr := 0xFE } := rfl

/-- V8.4. -/
theorem test_rxRead :
    exec (.rxRead 1) { booted with rxbuf := [(0, 0x11), (1, 0x22), (2, 0x33)] } =
      .next { booted with rxbuf := [(0, 0x11), (1, 0x22), (2, 0x33)], hostResult := some (.byte 0x22) } := rfl

/-- V8.6. -/
theorem test_rxRead_refuses : exec (.rxRead 4) booted = .refused .indexOutOfRange := rfl

/-- V8.7. -/
theorem test_rxcurRead :
    exec .rxcurRead { booted with rxcur := 3 } =
      .next { booted with rxcur := 3, hostResult := some (.cursor 3) } := rfl

/-- V8.8. -/
theorem test_txWrite :
    exec (.txWrite 2 0x5A) booted =
      .next { booted with txbuf := [(0, 0xA1), (1, 0xB2), (2, 0x5A), (3, 0xD4)] } := rfl

/-- Writing what an unlisted cell reads as removes the cell (log 5). -/
theorem test_txWrite_zero :
    exec (.txWrite 0 0x00) booted = .next { booted with txbuf := [(1, 0xB2), (2, 0xC3), (3, 0xD4)] } := rfl

/-- V8.10. -/
theorem test_txcurReset : exec .txcurReset { booted with txcur := 2 } = .next booted := rfl

/-- V8.11. -/
theorem test_flagRead :
    exec .flagRead { booted with frameStarted := true } =
      .next { booted with frameStarted := true, hostResult := some (.flags true false) } := rfl

/-- V8.12. -/
theorem test_clrFrameStarted :
    exec .clrFrameStarted { booted with frameStarted := true, byteReceived := true } =
      .next { booted with byteReceived := true } := rfl

/-- V8.13. -/
theorem test_clrByteReceived :
    exec .clrByteReceived { booted with frameStarted := true, byteReceived := true } =
      .next { booted with frameStarted := true } := rfl

/-- V8.14. -/
theorem test_irqDisable : exec .irqDisable booted = .next { booted with irqInh := true } := rfl

/-- V8.15. -/
theorem test_irqEnable :
    exec .irqEnable { completed .checkAddress 0x54 with irqInh := true } = .next (completed .checkAddress 0x54) := rfl

/-! ### Class PERIPH -/

theorem test_srRead :
    exec .srRead { booted with sr := 0x3C } = .next { booted with sr := 0x3C, unitResult := some (.byte 0x3C) } := rfl

theorem test_srWrite :
    exec (.srWrite 0x80) (sending 0x00) = .next { sending 0x00 with sr := 0x80 } := rfl

theorem test_sdaDirSet : exec (.sdaDirSet .input) (sending 0x00) = .next { sending 0x00 with sdaDir := .input } := rfl

theorem test_arm :
    exec (.arm 8) (completed .requestData 0x00) = .next (receiving .requestData) := rfl

theorem test_arm_refuses : exec (.arm 2) booted = .refused .armLength := rfl

theorem test_trigSet :
    exec (.trigSet false true) booted = .next { booted with startEn := false, shiftEn := true } := rfl

/-- A driven low data line and a held clock read low whatever the master does (R87). -/
theorem test_lineRead :
    exec .lineRead { sending 0x00 with shiftPend := true } =
      .next { sending 0x00 with shiftPend := true, unitResult := some (.lines false false), freeIdx := 1 } := by
  simp [exec, execLineRead, readLines, deliverUnit, sdaLevel, sclLevel, slaveSda, hold, sending, booted,
    State.resetWith]

/-! ### Class BUS -/

/-- V7.8. -/
theorem test_busStart : exec .busStart booted = .next started := rfl

/-- V7.11. -/
theorem test_busStart_line_low : exec .busStart (sending 0x32) = .refused .dataLineLow := rfl

/-- V7.1. -/
theorem test_busBit_completes :
    exec (.busBit false) { receiving .getDataAndAck with sr := 0x2A, cnt := 1 } =
      .next { completed .getDataAndAck 0x54 with busResult := some false } := rfl

/-- V7.4: the slave's low level wins. -/
theorem test_busBit_slave_low :
    exec (.busBit true) { sending 0x43 with cnt := 7 } =
      .next { sending 0x43 with sr := 0x86, cnt := 6, busResult := some false } := rfl

/-- R87, R89 and log 26: while a start is pending the clock reads low, whatever the master does with it. -/
theorem test_scl_low_while_start_pending : sclLevel true started = false ∧ sclLevel true booted = true := by decide

/-- V7.12. -/
theorem test_busStop : exec .busStop booted = .next booted := rfl

/-- V7.10. -/
theorem test_busStop_clock_held : exec .busStop (completed .checkAddress 0x54) = .refused .clockHeld := rfl

/-! ### Wire formats -/

/-- First group of P6: another address. -/
theorem test_slaW_mismatch :
    exec (.slaW 0x2B) (receiving .checkAddress) =
      .next { booted with sr := 0x56, busResult := some false } := rfl

/-- First group of P1 (95_test_vectors.md 4.1). -/
theorem test_slaW_match :
    exec (.slaW 0x2A) { receiving .checkAddress with rxcur := 3 } =
      .next { booted with
        shiftEn := true, sdaDir := .output, cnt := 1, busResult := some false, pstate := .requestData } := rfl

/-- First group of P3. -/
theorem test_slaR_match :
    exec (.slaR 0x2A) { receiving .checkAddress with txcur := 2 } =
      .next { booted with
        shiftEn := true, sdaDir := .output, cnt := 1, busResult := some true, pstate := .sendData } := rfl

/-- The master's ACK of P3 (95_test_vectors.md 4.2). -/
theorem test_ack :
    exec .ack { booted with pstate := .checkReplyForSend, sr := 0xA1, txcur := 1, cnt := 1, shiftEn := true } =
      .next { sending 0xB2 with txcur := 1, busResult := some false } := rfl

/-- The master's NACK of P3. -/
theorem test_nack :
    exec .nack { booted with pstate := .checkReplyForSend, sr := 0xB2, txcur := 2, cnt := 1, shiftEn := true } =
      .next { booted with pstate := .checkReplyForSend, sr := 0x65, txcur := 2, busResult := some true } := rfl

/-- The second byte of P1. -/
theorem test_data_received :
    exec (.data 0x22) { receiving .getDataAndAck with rxcur := 1, rxbuf := [(0, 0x11)] } =
      .next { booted with
        rxbuf := [(0, 0x11), (1, 0x22)], rxcur := 2, byteReceived := true, sdaDir := .output, cnt := 1,
        shiftEn := true, busResult := some false, pstate := .requestData } := rfl

/-- The byte of 95_test_vectors.md 4.2: the master reads `A1`. -/
theorem test_data_sent :
    observe (wireBits 0xFF) (sending 0xA1) =
      some ({ booted with
        pstate := .checkReplyForSend, sr := 0xA1, txcur := 1, cnt := 1, shiftEn := true, busResult := some true },
        [true, false, true, false, false, false, false, true]) := rfl

/-! ### Steps -/

/-- The collaborator's word runs first after reset. -/
theorem test_fetch_host : step (State.reset.withFetchWord 8 0b1001) = .next { State.reset with irqInh := true } := rfl

/-- R70, R71, R74: four bits that neither a key nor a HOST code has, and widths of no pattern, are no operation; the
whole byte `00001110` is the address byte of R61. -/
theorem test_table_word_widths :
    decodeTableWord 4 0b1110 = none ∧ decodeTableWord 4 0b1111 = none ∧ decodeTableWord 4 0b1101 = some .getDataAndAck ∧
    decodeTableWord 4 0b1010 = some .irqEnable ∧ decodeTableWord 5 0 = none ∧ decodeTableWord 7 0b1110 = none ∧
    decodeTableWord 8 0b1110 = some (.slaW 7) := by decide

/-- The refused word is refused by the step too (U15). -/
theorem test_fetch_unassigned :
    step (State.reset.withFetchWord 4 0b1110) = .refused (.undecodable .unassignedCode) := rfl

/-- A service word runs first after reset, its trigger pending (log 9). -/
theorem test_fetch_svc :
    step (State.reset.withFetchWord 8 0b1100) =
      .next { State.reset with startPend := false, shiftEn := true, pstate := .getDataAndAck, cnt := 8 } := rfl

/-- V9.1: the inhibited block holds the clock, the master waits, the collaborator ends the window. -/
theorem test_inhibit_window :
    step { completed .checkAddress 0x54 with irqInh := true, inputs := [input (.busBit true), input .irqEnable] } =
      .next { completed .checkAddress 0x54 with inputs := [input (.busBit true)] } := rfl

/-- The collaborator is offered no way to force idle or to read `SR` (43_init_and_host_ops.md R151). -/
theorem test_collaborator_not_offered :
    step { booted with inputs := [attempt .forceIdle] } = .refused .notOffered ∧
    step { booted with inputs := [attempt .srRead] } = .refused .notOffered := ⟨rfl, rfl⟩

/-- A primitive's word runs first after reset, presented by the CORE (log 9, log 14). -/
theorem test_fetch_periph : step (State.reset.withFetchWord 3 0b001) = .next State.reset := rfl

/-- A byte being sent that the master acknowledged for and that begins with a 0. -/
def sendingAcked (v : Byte) : State := { sending v with txcur := 2, ackedLow := true }

/-- The byte `32` of P4b with two of its slots clocked, so that `slave_sda = 1`. -/
def midByte : State := { sendingAcked 0x32 with sr := 0xC8, cnt := 6 }

/-- P4b: the byte `32` that an ACK asks for is marked, the first byte of a transaction is not. -/
theorem test_acked_low_byte_marked :
    exec .checkReplyForSend { completed .checkReplyForSend 0x00 with txcur := 2, txbuf := [(0, 0x32), (2, 0x32)] } =
      .next { sendingAcked 0x32 with txbuf := [(0, 0x32), (2, 0x32)] } ∧
    exec .sendData { completed .sendData 0x00 with txbuf := [(0, 0x32), (2, 0x32)] } =
      .next { sending 0x32 with txbuf := [(0, 0x32), (2, 0x32)] } := ⟨rfl, rfl⟩

/-- U10, P4b: `TXBUF[2] = 32`; neither event is enabled until the eight slots are clocked, after the load and two slots
later. -/
theorem test_low_byte_holds_bus :
    exec .busStart (sendingAcked 0x32) = .refused .dataLineLow ∧ exec .busStart midByte = .refused .dataLineLow ∧
    exec .busStop midByte = .refused .dataLineLow := ⟨rfl, rfl, rfl⟩

/-- R90, R92, R103: inside the first byte of a read both events are enabled on a free line. -/
theorem test_first_byte_start_served :
    exec .busStart { sending 0x32 with sr := 0xC8, cnt := 6 } =
      .next { sending 0x32 with sr := 0xC8, cnt := 6, startPend := true } ∧
    exec .busStop { sending 0x32 with sr := 0xC8, cnt := 6 } = .next { sending 0x32 with sr := 0xC8, cnt := 6 } :=
  ⟨rfl, rfl⟩

/-- R90, R92, V7.12 word for word, the other value of log 25's parameter: the level of the slot decides. -/
theorem test_slot_level_decides :
    exec .busStop { midByte with cfg := { Config.atReset with lowByteHoldsBus := false } } =
      .next { midByte with cfg := { Config.atReset with lowByteHoldsBus := false } } := rfl

/-- Before INIT the block is deaf (95_test_vectors.md 4.3, V7.9). -/
theorem test_deaf :
    step { State.reset with sr := 0x3C, inputs := [input (.busBit true)] } =
      .next { State.reset with sr := 0x79, busResult := some true } := rfl

/-! ### Witnesses: states and operands that meet the hypotheses of the statements -/

theorem inv_booted : Inv booted := by constructor <;> decide

theorem inv_started : Inv started := by constructor <;> decide

/-- `DecodeOfEncodeIsTheOperation`: the largest index and both lengths. -/
theorem witness_decode_of_encode :
    Instr.wellFormed (.rxRead 4294967295) = true ∧ Instr.wellFormed (.txWrite 4294967295 0xFF) = true ∧
    Instr.wellFormed (.arm 1) = true ∧ Instr.wellFormed (.arm 8) = true := by decide

/-- `EncodeOfDecodeIsTheBytes`. -/
theorem witness_encode_of_decode :
    decode [0x04, 0, 0xA1, 0xFF, 0xFF, 0xFF, 0xFF, 0x99] = .ok (.txWrite 4294967295 0xA1, [0x99]) := by decide

/-- `StepRunsDecodedInput`: an early input before an enabled service, next state. -/
theorem witness_step_runs_early :
    decodeWhole (earlyInput .rxcurRead).bytes = .ok .rxcurRead ∧ (earlyInput .rxcurRead).early = true ∧
    Instr.agent .rxcurRead = (earlyInput .rxcurRead).agent ∧ (enabledService started).isSome = true ∧
    exec .rxcurRead started = .next { started with hostResult := some (.cursor 0) } :=
  ⟨by decide, rfl, rfl, by decide, rfl⟩

/-- `StepRunsDecodedInput`: no service enabled, a refusal that is no wait. -/
theorem witness_step_runs_refusal :
    decodeWhole (input (.rxRead 4)).bytes = .ok (.rxRead 4) ∧ Instr.agent (.rxRead 4) = (input (.rxRead 4)).agent ∧
    enabledService booted = none ∧
    exec (.rxRead 4) booted = .refused .indexOutOfRange ∧ Refusal.waits .indexOutOfRange = false :=
  ⟨by decide, rfl, by decide, rfl, rfl⟩

/-- `StepServesEnabledTrigger`: both clauses, an input waiting. -/
theorem witness_step_serves :
    (∃ s : State, s = { started with shiftPend := true, inputs := [input .rxcurRead] } ∧
      (∀ it ∈ s.inputs.head?, it.early = false) ∧ s.startPend = true ∧ s.startEn = true ∧ s.irqInh = false) ∧
    (∃ s : State, s = { completed .sendData 0x00 with inputs := [input .rxcurRead] } ∧
      (∀ it ∈ s.inputs.head?, it.early = false) ∧ s.shiftPend = true ∧ s.shiftEn = true ∧ s.startPend = false ∧
      s.irqInh = false) :=
  ⟨⟨_, rfl, by simp [input], rfl, rfl, rfl⟩, ⟨_, rfl, by simp [input], rfl, rfl, rfl, rfl⟩⟩

/-- `StepLetsOthersPassAWaitingAgent`: the master waits for a service, for the collaborator, for nothing. -/
theorem witness_step_waiting :
    decodeWhole (earlyInput (.busBit true)).bytes = .ok (.busBit true) ∧
    Instr.agent (.busBit true) = (earlyInput (.busBit true)).agent ∧ Refusal.waits .clockHeld = true ∧
    (exec (.busBit true) started = .refused .clockHeld ∧ (enabledService started).isSome = true) ∧
    (exec (.busBit true) { started with irqInh := true } = .refused .clockHeld ∧
      enabledService { started with irqInh := true } = none ∧
      takeHost [input .busStop, input .irqEnable] = some (input .irqEnable, [input .busStop]) ∧
      decodeWhole (input .irqEnable).bytes = .ok .irqEnable ∧
      Instr.agent .irqEnable = (input .irqEnable).agent ∧ takeHost [input .busStop] = none) :=
  ⟨by decide, rfl, rfl, ⟨rfl, by decide⟩, rfl, by decide, by decide, by decide, rfl, by decide⟩

/-- `StepRefusesUnassignedCode`: code `1011` of class HOST, and an operation of the CORE and of the master that the
collaborator presents, of the collaborator and of the CORE that the master presents. -/
theorem witness_step_unassigned :
    enabledService booted = none ∧ decodeWhole [0b1011, 0, 0, 0, 0, 0, 0] = .error .unassignedCode ∧
    ((attempt .srRead).agent = .collaborator ∧ decodeWhole (attempt .srRead).bytes = .ok .srRead ∧
      Instr.opClass .srRead = .periph ∧ Instr.opClass .forceIdle = .micro ∧ Instr.opClass .sendData = .svc ∧
      Instr.opClass .busStart ≠ .host) ∧
    ((input .busStop).agent = .master ∧ decodeWhole (encode .init) = .ok .init ∧ Instr.opClass .init ≠ .bus ∧
      Instr.opClass .init ≠ .wire) := by decide

/-- `QuiescentStepChangesNothing`. -/
theorem witness_quiescent : quiescent State.reset = true := by decide

/-- `ServiceReleasesTheClock`. -/
theorem witness_service_releases :
    Inv started ∧ enabledService started = some (.svcStart 0) ∧
    exec (.svcStart 0) started = .next (receiving .checkAddress) := ⟨inv_started, by decide, rfl⟩

/-- `StartDetectorArmsAddressByte`. -/
theorem witness_start_detector :
    started.startPend = true ∧ started.startEn = true ∧ started.irqInh = false := by decide

/-- The enabling hypotheses of the six actions of the Shift Engine. -/
theorem witness_action_enabled (p : PState) (v : Byte) :
    (completed p v).shiftPend = true ∧ (completed p v).shiftEn = true ∧ (completed p v).startPend = false ∧
    (completed p v).irqInh = false ∧ (completed p v).pstate = p := ⟨rfl, rfl, rfl, rfl, rfl⟩

/-- `CheckAddressSelectsTransaction`: the three clauses, with the bytes `56`, `54` and `55`. -/
theorem witness_check_address :
    (completed .checkAddress 0x56).sr.extractLsb' 1 7 ≠ booted.addr.extractLsb' 1 7 ∧
    ((completed .checkAddress 0x54).sr.extractLsb' 1 7 = booted.addr.extractLsb' 1 7 ∧
      (completed .checkAddress 0x54).sr.getLsbD 0 = false) ∧
    ((completed .checkAddress 0x55).sr.extractLsb' 1 7 = booted.addr.extractLsb' 1 7 ∧
      (completed .checkAddress 0x55).sr.getLsbD 0 = true) := by decide

/-- `SendDataLoadsOrIdles`, `MicroOperationEffects`: the last cell and the exhausted buffer. -/
theorem witness_send_data :
    (txAt 3 (completed .sendData 0x00)).txcur < booted.cfg.cTx ∧
    booted.cfg.cTx ≤ (txAt 4 (completed .sendData 0x00)).txcur := by decide

/-- `ReplyBitDecidesNextByte`: NACK, ACK with the last cell left, ACK with none left. -/
theorem witness_reply_bit :
    (completed .checkReplyForSend 0x43).sr.getLsbD 0 = true ∧
    (completed .checkReplyForSend 0x42).sr.getLsbD 0 = false ∧
    (txAt 3 (completed .checkReplyForSend 0x42)).txcur < booted.cfg.cTx ∧
    booted.cfg.cTx ≤ (txAt 4 (completed .checkReplyForSend 0x42)).txcur := by decide

/-- `DataByteStoredOrDiscarded`: the last cell and the full buffer. -/
theorem witness_data_byte :
    (rxAt 3 (completed .getDataAndAck 0x44)).rxcur < booted.cfg.cRx ∧
    booted.cfg.cRx ≤ (rxAt 4 (completed .getDataAndAck 0x55)).rxcur := by decide

/-- `ServiceNotEnabledIsNotTaken`: each reason alone. -/
theorem witness_not_enabled :
    booted.startPend = false ∧ { started with startEn := false }.startEn = false ∧
    { started with irqInh := true }.irqInh = true ∧ booted.shiftPend = false ∧
    { completed .sendData 0x00 with shiftEn := false }.shiftEn = false ∧
    { completed .sendData 0x00 with startPend := true }.startPend = true ∧
    (completed .sendData 0x00).pstate ≠ .requestData := by decide

/-- `ForceIdleReentryChangesNothing`. -/
theorem witness_force_idle_reentry : Inv booted ∧ idle booted = true := ⟨inv_booted, by decide⟩

/-- `RxReadDeliversCell`, `TxWriteStoresByte`: the last index and the first refused one. -/
theorem witness_indexes :
    3 < booted.cfg.cRx ∧ booted.cfg.cRx ≤ 4 ∧ 3 < booted.cfg.cTx ∧ booted.cfg.cTx ≤ 4 ∧
    Memory.wf booted.txbuf = true := by decide

/-- `ShiftRegisterReadAndWrite`: the line is an output. -/
theorem witness_sr_write_output : (sending 0x00).sdaDir = .output := rfl

/-- `ArmTakesOneOrEight`: the lengths beside the legal ones. -/
theorem witness_arm_refused : (0 ≠ 1 ∧ 0 ≠ 8) ∧ (2 ≠ 1 ∧ 2 ≠ 8) ∧ (7 ≠ 1 ∧ 7 ≠ 8) ∧ (9 ≠ 1 ∧ 9 ≠ 8) := by decide

/-- `BusStartMarksStartPending`, `BusBitShiftsAndCounts`, `BusStopChangesNothing`: each clause. -/
theorem witness_bus_events :
    (hold booted = false ∧ slaveSda booted = true ∧ booted.startEn = true) ∧
    (hold State.reset = false ∧ slaveSda State.reset = true ∧ State.reset.startEn = false) ∧
    (byteHeld booted = false ∧ byteHeld State.reset = false) ∧ hold started = true ∧
    (hold (sending 0x32) = false ∧ slaveSda (sending 0x32) = false) ∧
    (hold midByte = false ∧ slaveSda midByte = true ∧ byteHeld midByte = true) := by decide

/-- `DeafBeforeInit`. -/
theorem witness_deaf :
    State.reset.startEn = false ∧ State.reset.shiftEn = false ∧ State.reset.startPend = false ∧
    State.reset.shiftPend = false ∧ State.reset.cnt = 0 ∧ State.reset.sdaDir = .input ∧
    Instr.opClass .busStart = .bus ∧ Instr.opClass (.slaW 0x2A) = .wire := by decide

theorem receiving_receiving (p : PState) : Receiving (receiving p) := ⟨rfl, rfl, rfl, rfl, rfl, rfl⟩

/-- `ReceivedByteIsShiftComplete`, `AddressByteSelectsTransaction`: another address and the own one. -/
theorem witness_address_byte :
    Receiving (receiving .checkAddress) ∧ (receiving .checkAddress).pstate = .checkAddress ∧
    (0x2B : Addr7) ≠ (receiving .checkAddress).addr.extractLsb' 1 7 ∧
    (0x2A : Addr7) = (receiving .checkAddress).addr.extractLsb' 1 7 :=
  ⟨receiving_receiving _, rfl, by decide, by decide⟩

/-- `DataByteReachesRxBuffer`: the last cell and the full buffer. -/
theorem witness_data_received :
    (Receiving (rxAt 3 (receiving .getDataAndAck)) ∧ (rxAt 3 (receiving .getDataAndAck)).pstate = .getDataAndAck ∧
      (rxAt 3 (receiving .getDataAndAck)).rxcur < booted.cfg.cRx ∧
      Memory.wf (rxAt 3 (receiving .getDataAndAck)).rxbuf = true) ∧
    (Receiving (rxAt 4 (receiving .getDataAndAck)) ∧ (rxAt 4 (receiving .getDataAndAck)).pstate = .getDataAndAck ∧
      booted.cfg.cRx ≤ (rxAt 4 (receiving .getDataAndAck)).rxcur) :=
  ⟨⟨⟨rfl, rfl, rfl, rfl, rfl, rfl⟩, rfl, by decide, by decide⟩, ⟨rfl, rfl, rfl, rfl, rfl, rfl⟩, rfl, by decide⟩

/-- `MasterReplySlotDecides`: the last cell left and none left. -/
theorem witness_master_reply :
    replying.cnt = 1 ∧ replying.sdaDir = .input ∧ replying.shiftEn = true ∧ hold replying = false ∧
    replying.irqInh = false ∧ replying.pstate = .checkReplyForSend ∧
    (txAt 3 replying).txcur < (txAt 3 replying).cfg.cTx ∧ (txAt 4 replying).cfg.cTx ≤ (txAt 4 replying).txcur := by
  decide

/-- `SlaveAckSlotReadsLow`: before a byte received and before the last byte sent. -/
theorem witness_slave_ack :
    ((acking .requestData).cnt = 1 ∧ (acking .requestData).sdaDir = .output ∧ (acking .requestData).sr = 0x00 ∧
      (acking .requestData).shiftEn = true ∧ hold (acking .requestData) = false ∧
      (acking .requestData).irqInh = false ∧ (acking .requestData).pstate = .requestData) ∧
    (hold (txAt 3 (acking .sendData)) = false ∧ (txAt 3 (acking .sendData)).pstate = .sendData ∧
      (txAt 3 (acking .sendData)).sr = 0x00 ∧
      (txAt 3 (acking .sendData)).txcur < (txAt 3 (acking .sendData)).cfg.cTx) := by decide

/-- `SentByteIsSampledByMaster`: a byte acknowledged for that began with a 0, a first byte whose line is free, no slot
and seven slots clocked. -/
theorem witness_sending :
    Sending (sendingAcked 0x32) ∧ (sendingAcked 0x32).cfg.lowByteHoldsBus = true ∧ (sendingAcked 0x32).ackedLow = true ∧
    Sending (sending 0xA1) ∧ (sending 0xA1).ackedLow = false ∧ slaveSda (sending 0xA1) = true ∧
    ([] : List Bool).length < 8 ∧ (List.replicate 7 true).length < 8 :=
  ⟨⟨rfl, rfl, rfl, rfl, rfl, rfl, rfl⟩, rfl, rfl, ⟨rfl, rfl, rfl, rfl, rfl, rfl, rfl⟩, rfl, rfl, by decide, by decide⟩

/-- `HeldClockStopsTheBus`. -/
theorem witness_held_clock : hold started = true ∧ Instr.opClass (.busBit true) = .bus := by decide

/-- `OtherOperationsStoreNothing`. -/
theorem witness_stores_nothing :
    exec .requestData (completed .requestData 0x00) = .next (receiving .getDataAndAck) ∧
    Instr.opClass .requestData ≠ .wire ∧ Instr.requestData ≠ .getDataAndAck ∧
    ∀ k b, Instr.requestData ≠ .txWrite k b := ⟨rfl, by decide, by decide, by simp⟩

/-- `StoringOperationsStoreAtTheirIndex`: both clauses; cell 1 is outside the stored bytes. -/
theorem witness_stores :
    (∃ t, exec .getDataAndAck (completed .getDataAndAck 0x11) = .next t) ∧
    (∃ t, exec (.txWrite 3 0x5A) booted = .next t) ∧ 1 ≠ (completed .getDataAndAck 0x11).rxcur ∧ 1 ≠ 3 :=
  ⟨⟨_, rfl⟩, ⟨_, rfl⟩, by decide, by decide⟩

/-- `WireFormatsFrame`. -/
theorem witness_wire_frame :
    Instr.opClass (.data 0x11) = .wire ∧ ∃ t, exec (.data 0x11) (receiving .getDataAndAck) = .next t :=
  ⟨rfl, _, rfl⟩

/-- `HostOperationsFrame`. -/
theorem witness_host_frame :
    Instr.opClass .txcurReset = .host ∧ Instr.txcurReset ≠ .init ∧ ∃ t, exec .txcurReset booted = .next t :=
  ⟨rfl, by decide, _, rfl⟩

/-- `PowerOnHasInvariant`: the smallest capacities and a filled cell. -/
theorem witness_power_on :
    PowerOn.valid
      { cRx := 1, cTx := 1, rxFlagOnDiscard := true, startWaitBound := 0, lowByteHoldsBus := false } filled = true := by
  decide

/-- `StepKeepsTheInvariant`. -/
theorem witness_step_keeps : Inv started ∧ step started = .next (receiving .checkAddress) := ⟨inv_started, rfl⟩

/-- `ReachableCursorsFitTheirWidths`. -/
theorem witness_reachable : Reachable State.reset :=
  .powerOn Config.atReset PowerOn.named (by decide) (by decide) (by decide)

/-- `StartTriggerStaysEnabled`, `RetainedProtocolStateUnobserved`: a master's input, the shift trigger disabled. -/
theorem witness_environment :
    Input.environment (input .busStart) = true ∧ booted.startEn = true ∧ booted.shiftEn = false ∧
    step { booted with inputs := [input .busStart] } = .next started := ⟨by decide, rfl, rfl, rfl⟩

/-- `FlagsClearedOnlyByCollaborator`: both clauses. -/
theorem witness_flags :
    (∃ t, step { booted with frameStarted := true, inputs := [input .clrFrameStarted] } = .next t ∧
      t.frameStarted = false) ∧
    (∃ t, step { booted with byteReceived := true, inputs := [input .clrByteReceived] } = .next t ∧
      t.byteReceived = false) := ⟨⟨_, rfl, rfl⟩, ⟨_, rfl, rfl⟩⟩

/-- `AddressAndTxBufferHaveOneWriter`: both clauses. -/
theorem witness_one_writer :
    (∃ t, step { booted with inputs := [input (.setAddress 0x31)] } = .next t ∧ t.addr ≠ booted.addr) ∧
    (∃ t, step { booted with inputs := [input (.txWrite 2 0x5A)] } = .next t ∧ t.txbuf ≠ booted.txbuf) :=
  ⟨⟨_, rfl, by decide⟩, ⟨_, rfl, by decide⟩⟩

theorem listening_booted : Listening booted := ⟨rfl, rfl, rfl, rfl, rfl, rfl⟩

/-- `WriteTransactionFillsRxBuffer`: five bytes into four cells, and none. -/
theorem witness_write_transaction :
    Listening booted ∧ 1 ≤ booted.cfg.cRx ∧ Memory.wf booted.rxbuf = true ∧
    booted.cfg.cRx < [(0x11 : Byte), 0x22, 0x33, 0x44, 0x55].length := ⟨listening_booted, by decide, by decide, by decide⟩

/-- `ReadTransactionEndsAtNack`, `ReadTransactionAllAcknowledged`: the last byte, and all of them. -/
theorem witness_read_transaction :
    Listening booted ∧ 1 ≤ booted.cfg.cTx ∧ 3 < booted.cfg.cTx ∧ 4 ≤ booted.cfg.cTx ∧ 4 = booted.cfg.cTx :=
  ⟨listening_booted, by decide, by decide, by decide, by decide⟩

/-- `AddressMismatchLeavesEverything`: the bytes of V1.4 and V1.5. -/
theorem witness_mismatch :
    Listening booted ∧ (0x57 : Byte).extractLsb' 1 7 ≠ booted.addr.extractLsb' 1 7 ∧
    (0xD4 : Byte).extractLsb' 1 7 ≠ booted.addr.extractLsb' 1 7 := ⟨listening_booted, by decide, by decide⟩

end Sys2Proof.Tests
end

section
/-! Obligations of 40_shift_unit_and_bus.md: the Shift Unit primitives that write the direction (R83) and the two
trigger enables (R85). -/

namespace Sys2Proof.Machine

/-- The dispatch runs SDA_DIR_SET as its state operation, in every state (R83). -/
theorem exec_sdaDirSet (d : Dir) (s : State) : exec (.sdaDirSet d) s = .next (setSdaDir d s) := rfl

/-- The dispatch runs TRIG_SET as its state operation, in every state (R85). -/
theorem exec_trigSet (se he : Bool) (s : State) : exec (.trigSet se he) s = .next (setTriggers se he s) := rfl

/-- Settles O30: the direction alone is written, and a line set to input is free by `slaveSda_of_input`, which asks
nothing of `SR`. -/
theorem directionSetReleasesLine : Obligations.DirectionSetReleasesLine := by
  intro d s
  refine ⟨setSdaDir d s, exec_sdaDirSet d s, rfl, fun hd => ?_⟩
  exact slaveSda_of_input ((setSdaDir_sdaDir s d).trans hd)

/-- Settles O32: `setTriggers` writes the two enables from its two operands and no other field. -/
theorem triggerEnablesIndependent : Obligations.TriggerEnablesIndependent :=
  exec_trigSet

end Sys2Proof.Machine
end

section
/-! Obligation of 42_shift_engine.md: the service REQUEST_DATA (R118), where it is the enabled one (R110). -/

namespace Sys2Proof.Machine

/-- REQUEST_DATA's three assignments, the arming clearing `SHIFT_PEND` with the second (42_shift_engine.md R118). -/
theorem requestData_eq (s : State) :
    requestData s = { s with sdaDir := .input, cnt := 8, shiftPend := false, pstate := .getDataAndAck } := rfl

/-- REQUEST_DATA runs where it is the enabled service (42_shift_engine.md R110). -/
theorem exec_requestData_of_actionReady {s : State} (h : actionReady .requestData s = true) :
    exec .requestData s = .next (requestData s) :=
  if_pos h

/-- Settles O15: the trigger conditions of R110 enable the service, and `requestData_eq` is its whole next state. -/
theorem requestDataArmsShiftIn : Obligations.RequestDataArmsShiftIn := by
  intro s hpend hen hstart hinh hstate
  have hready : actionReady .requestData s = true :=
    actionReady_iff.mpr ⟨shiftReady_iff.mpr ⟨hpend, hen, hstart, hinh⟩, hstate⟩
  rw [exec_requestData_of_actionReady hready, requestData_eq]

end Sys2Proof.Machine
end

section
/-! Obligations of 43_init_and_host_ops.md: the collaborator's operations that reset the Tx cursor (R145) and clear one
notification flag (R147, R148). -/

namespace Sys2Proof.Machine

/-- The dispatch runs TXCUR_RESET as its state operation, in every state (R145, R153). -/
theorem exec_txcurReset (s : State) : exec .txcurReset s = .next (setTxcur 0 s) := rfl

/-- The dispatch runs CLR_FRAME_STARTED as its state operation, in every state (R147, R153). -/
theorem exec_clrFrameStarted (s : State) : exec .clrFrameStarted s = .next (clearFrameStarted s) := rfl

/-- The dispatch runs CLR_BYTE_RECEIVED as its state operation, in every state (R148, R153). -/
theorem exec_clrByteReceived (s : State) : exec .clrByteReceived s = .next (clearByteReceived s) := rfl

/-- Settles O25: `setTxcur` writes the Tx cursor and no other field. -/
theorem txcurResetZeroesCursor : Obligations.TxcurResetZeroesCursor :=
  exec_txcurReset

/-- Settles O27: each clear operation writes its own flag and no other field, so the other flag is kept too. -/
theorem clearOperationsClearOneFlag : Obligations.ClearOperationsClearOneFlag :=
  fun s => ⟨exec_clrFrameStarted s, exec_clrByteReceived s⟩

end Sys2Proof.Machine
end

section
/-! Obligations of 30_encoding.md: decoder and encoder of items are inverse to one another (R61 to R71; the item format
is log 7). -/

namespace Sys2Proof

/-- The four index bytes of an item hold the index, if it fits them. -/
theorem indexOf_bytes {n : Nat} (h : n < indexLimit) :
    indexOf (BitVec.ofNat 8 n) (BitVec.ofNat 8 (n / 256)) (BitVec.ofNat 8 (n / 65536))
      (BitVec.ofNat 8 (n / 16777216)) = n := by
  simp only [indexOf, BitVec.toNat_ofNat, indexLimit] at *
  omega

/-- Four bytes are the index bytes of the index they hold. -/
theorem itemBytes_indexOf (code fmt op x0 x1 x2 x3 : Byte) :
    itemBytes code fmt op (indexOf x0 x1 x2 x3) = [code, fmt, op, x0, x1, x2, x3] := by
  have h0 := x0.isLt; have h1 := x1.isLt; have h2 := x2.isLt; have h3 := x3.isLt
  simp only [itemBytes, indexOf, List.cons.injEq, and_true, true_and]
  refine ⟨?_, ?_, ?_, ?_⟩ <;> apply BitVec.eq_of_toNat_eq <;> simp only [BitVec.toNat_ofNat] <;> omega

/-- An item is decoded by its fields. -/
theorem decode_itemBytes {code fmt op : Byte} {n : Nat} {i : Instr} (hn : n < indexLimit)
    (h : decodeFields code fmt op n = .ok i) (rest : List Byte) :
    decode (itemBytes code fmt op n ++ rest) = .ok (i, rest) := by
  simp [itemBytes, decode, indexOf_bytes hn, h]

/-- A byte of a known value. -/
theorem byte_eq_of_toNat {b : Byte} {n : Nat} (h : b.toNat = n) : b = BitVec.ofNat 8 n := by
  simp [← h]

/-- A well-formed operation is the reading of the fields that its encoding has. -/
theorem encode_fields {i : Instr} (h : i.wellFormed = true) :
    ∃ code fmt op n, encode i = itemBytes code fmt op n ∧ n < indexLimit ∧ decodeFields code fmt op n = .ok i := by
  cases i
  case slaW a => exact ⟨_, _, _, _, rfl, by decide, by revert a; decide⟩
  case slaR a => exact ⟨_, _, _, _, rfl, by decide, by revert a; decide⟩
  case svcStart sss => exact ⟨_, _, _, _, rfl, by decide, by revert sss; decide⟩
  case setAddress a => exact ⟨_, _, _, _, rfl, by decide, by revert a; decide⟩
  case rxRead k => exact ⟨_, _, _, _, rfl, of_decide_eq_true h, rfl⟩
  case txWrite k b => exact ⟨_, _, _, _, rfl, of_decide_eq_true h, rfl⟩
  case sdaDirSet d => cases d <;> exact ⟨_, _, _, _, rfl, by decide, rfl⟩
  case arm n =>
    have hn : n = 1 ∨ n = 8 := by simpa [Instr.wellFormed] using h
    rcases hn with rfl | rfl <;> exact ⟨_, _, _, _, rfl, by decide, rfl⟩
  case trigSet se he => exact ⟨_, _, _, _, rfl, by decide, by revert se he; decide⟩
  case busBit m => exact ⟨_, _, _, _, rfl, by decide, by revert m; decide⟩
  all_goals exact ⟨_, _, _, _, rfl, by decide, rfl⟩

/-- Settles O1: the fields of the encoding are read back whatever follows them. -/
theorem decodeOfEncodeIsTheOperation : Obligations.DecodeOfEncodeIsTheOperation := by
  intro i rest h
  obtain ⟨code, fmt, op, n, henc, hn, hdec⟩ := encode_fields h
  rw [henc]
  exact decode_itemBytes hn hdec rest

/-- What `bare` accepts: both operand fields zero. -/
theorem encode_of_bare {code fmt op : Byte} {n : Nat} {i j : Instr} (h : bare op n j = .ok i)
    (hj : encode j = itemBytes code fmt 0 0) : encode i = itemBytes code fmt op n := by
  unfold bare at h
  split at h
  · obtain ⟨rfl, rfl⟩ := ‹op = 0 ∧ n = 0›
    cases h; exact hj
  · cases h

/-- What `onByte` accepts: the index zero. -/
theorem encode_of_onByte {code fmt op : Byte} {n : Nat} {i : Instr} {f : Byte → Instr} (h : onByte op n f = .ok i)
    (hf : encode (f op) = itemBytes code fmt op 0) : encode i = itemBytes code fmt op n := by
  unfold onByte at h
  split at h
  · subst ‹n = 0›
    cases h; exact hf
  · cases h

/-- What `onBits` accepts: the operand within its bits, the index zero. -/
theorem encode_of_onBits {code fmt op : Byte} {k n : Nat} {i : Instr} {f : Byte → Instr} (h : onBits k op n f = .ok i)
    (hf : op.toNat < 2 ^ k → encode (f op) = itemBytes code fmt op 0) : encode i = itemBytes code fmt op n := by
  unfold onBits at h
  split at h
  · obtain ⟨hlt, rfl⟩ := ‹op.toNat < 2 ^ k ∧ n = 0›
    cases h; exact hf hlt
  · cases h

/-- What `onIndex` accepts: the operand byte zero. -/
theorem encode_of_onIndex {code fmt op : Byte} {n : Nat} {i : Instr} {f : Nat → Instr} (h : onIndex op n f = .ok i)
    (hf : encode (f n) = itemBytes code fmt 0 n) : encode i = itemBytes code fmt op n := by
  unfold onIndex at h
  split at h
  · subst ‹op = 0›
    cases h; exact hf
  · cases h

/-- An address byte is its two fields (R61). -/
theorem addrByte_fields : ∀ v : Byte, addrByte (addrField v) (lowBit v) = v := by decide

/-- Class HOST (R71) has the tag 0. -/
theorem encode_of_decodeHost {code op : Byte} {n : Nat} {i : Instr} (h : decodeHost code op n = .ok i) :
    encode i = itemBytes code 0 op n := by
  unfold decodeHost at h
  split at h
  case h_12 => cases h
  all_goals rename_i hc; obtain rfl := byte_eq_of_toNat hc
  case h_2 => exact encode_of_onBits h (by clear h; revert op; decide)
  case h_3 => exact encode_of_onIndex h rfl
  case h_5 => cases h; rfl
  all_goals exact encode_of_bare h rfl

/-- Format ADDRBYTE (R61, R63) has the tag 1. -/
theorem encode_of_decodeAddrByte {code op : Byte} {n : Nat} {i : Instr} (h : decodeAddrByte code op n = .ok i) :
    encode i = itemBytes code 1 op n := by
  refine encode_of_bare h ?_
  have hv := addrByte_fields code
  split
  · rw [encode, ← ‹lowBit code = true›, hv]
  · rw [encode, ← Bool.eq_false_of_not_eq_true ‹_›, hv]

/-- Format ACKBIT (R65) has the tag 2. -/
theorem encode_of_decodeAckBit {code op : Byte} {n : Nat} {i : Instr} (h : decodeAckBit code op n = .ok i) :
    encode i = itemBytes code 2 op n := by
  unfold decodeAckBit at h
  split at h
  case h_3 => cases h
  all_goals rename_i hc; obtain rfl := byte_eq_of_toNat hc
  all_goals exact encode_of_bare h rfl

/-- Class SVC (R70) has the tag 4. -/
theorem encode_of_decodeSvc {code op : Byte} {n : Nat} {i : Instr} (h : decodeSvc code op n = .ok i) :
    encode i = itemBytes code 4 op n := by
  unfold decodeSvc at h
  split at h
  case h_7 =>
    split at h
    · rename_i hlt
      exact encode_of_bare h (by clear * - hlt; revert code; decide)
    · cases h
  all_goals rename_i hc; obtain rfl := byte_eq_of_toNat hc
  all_goals exact encode_of_bare h rfl

/-- Class MICRO has the tag 5 (log 7). -/
theorem encode_of_decodeMicro {code op : Byte} {n : Nat} {i : Instr} (h : decodeMicro code op n = .ok i) :
    encode i = itemBytes code 5 op n := by
  unfold decodeMicro at h
  split at h
  case h_4 => cases h
  all_goals rename_i hc; obtain rfl := byte_eq_of_toNat hc
  all_goals exact encode_of_bare h rfl

/-- Class PERIPH (R71) has the tag 6. -/
theorem encode_of_decodePeriph {code op : Byte} {n : Nat} {i : Instr} (h : decodePeriph code op n = .ok i) :
    encode i = itemBytes code 6 op n := by
  unfold decodePeriph at h
  split at h
  case h_7 => cases h
  all_goals rename_i hc; obtain rfl := byte_eq_of_toNat hc
  case h_2 => exact encode_of_onByte h rfl
  case h_3 => exact encode_of_onBits h (by clear h; revert op; decide)
  case h_4 => exact encode_of_onByte h (by simp [encode])
  case h_5 => exact encode_of_onBits h (by clear h; revert op; decide)
  all_goals exact encode_of_bare h rfl

/-- Class BUS (R71) has the tag 7. -/
theorem encode_of_decodeBus {code op : Byte} {n : Nat} {i : Instr} (h : decodeBus code op n = .ok i) :
    encode i = itemBytes code 7 op n := by
  unfold decodeBus at h
  split at h
  case h_4 => cases h
  all_goals rename_i hc; obtain rfl := byte_eq_of_toNat hc
  case h_2 => exact encode_of_onBits h (by clear h; revert op; decide)
  all_goals exact encode_of_bare h rfl

/-- Fields that hold an operation are the fields of its encoding. -/
theorem encode_of_decodeFields {code fmt op : Byte} {n : Nat} {i : Instr} (h : decodeFields code fmt op n = .ok i) :
    encode i = itemBytes code fmt op n := by
  unfold decodeFields at h
  split at h
  case h_9 => cases h
  all_goals rename_i hf; obtain rfl := byte_eq_of_toNat hf
  case h_1 => exact encode_of_decodeHost h
  case h_2 => exact encode_of_decodeAddrByte h
  case h_3 => exact encode_of_decodeAckBit h
  case h_4 => exact encode_of_bare h rfl
  case h_5 => exact encode_of_decodeSvc h
  case h_6 => exact encode_of_decodeMicro h
  case h_7 => exact encode_of_decodePeriph h
  case h_8 => exact encode_of_decodeBus h

/-- Settles O2: a decoded list begins with an item of seven bytes, which are the fields of the operation. -/
theorem encodeOfDecodeIsTheBytes : Obligations.EncodeOfDecodeIsTheBytes := by
  intro bs rest i h
  unfold decode at h
  split at h
  · rename_i code fmt op x0 x1 x2 x3 tail
    split at h
    · rename_i j hj
      cases h
      rw [encode_of_decodeFields hj, itemBytes_indexOf]
      rfl
    · cases h
  · cases h

/-- Settles O3: each word is a closed computation of the decoder. -/
theorem specWordsDecode : Obligations.SpecWordsDecode := by
  unfold Obligations.SpecWordsDecode
  decide

end Sys2Proof
end

section
/-! Obligations of 41_start_detector.md and 42_shift_engine.md: when a service runs (R100, R110) and the next state of
each service and micro-operation (R101, R111 to R119). -/

namespace Sys2Proof.Machine

/-- The Shift Engine's action of `PSTATE` is the enabled service where the engine is enabled (R110). -/
theorem enabledService_of_shiftReady {s : State} (h : shiftReady s = true) :
    enabledService s = some s.pstate.action := by
  simp [enabledService, not_startReady_of_shiftReady h, h]

/-- The Start Detector is the enabled service where it is enabled (60_exceptions.md R166). -/
theorem enabledService_of_startReady {s : State} (h : startReady s = true) :
    enabledService s = some (.svcStart s.pstate.code) := by
  simp [enabledService, h]

theorem serve_of_startReady {s : State} (h : startReady s = true) : serve s = startDetector s := by
  simp [serve, h]

theorem serve_of_shiftReady {s : State} (h : shiftReady s = true) : serve s = shiftComplete s.sr s := by
  simp [serve, not_startReady_of_shiftReady h, h]

/-- SVC_START runs where the Start Detector is enabled, whatever the code in its key (R100, R70). -/
theorem exec_svcStart_of_ready {s : State} (h : startReady s = true) (sss : BitVec 3) :
    exec (.svcStart sss) s = .next (startDetector s) :=
  if_pos h

theorem exec_svcStart_of_not_ready {s : State} (h : ¬startReady s = true) (sss : BitVec 3) :
    exec (.svcStart sss) s = .refused .serviceNotEnabled :=
  if_neg h

/-- An action of the Shift Engine runs where it is the enabled service (R110). -/
theorem exec_action_of_ready {p : PState} {s : State} (h : actionReady p s = true) :
    exec p.action s = .next (shiftComplete s.sr s) := by
  obtain ⟨hready, rfl⟩ := actionReady_iff.mp h
  rw [exec_enabledService (enabledService_of_shiftReady hready), serve_of_shiftReady hready]

theorem exec_action_of_not_ready {p : PState} {s : State} (h : ¬actionReady p s = true) :
    exec p.action s = .refused .serviceNotEnabled := by
  cases p <;> exact if_neg h

/-- The trigger conditions of R110 with `PSTATE` at `p` enable the action of `p`. -/
theorem actionReady_of_triggers {p : PState} {s : State} (hpend : s.shiftPend = true) (hen : s.shiftEn = true)
    (hstart : s.startPend = false) (hinh : s.irqInh = false) (hp : s.pstate = p) : actionReady p s = true :=
  actionReady_iff.mpr ⟨shiftReady_iff.mpr ⟨hpend, hen, hstart, hinh⟩, hp⟩

/-! ### The event level by the value of `PSTATE` (R110) -/

section
variable {s : State} (v : Byte)

theorem shiftComplete_checkAddress (h : s.pstate = .checkAddress) : shiftComplete v s = checkAddress v s := by
  simp [shiftComplete, h]

theorem shiftComplete_sendData (h : s.pstate = .sendData) : shiftComplete v s = loadAndArm s := by
  simp [shiftComplete, sendData, h]

theorem shiftComplete_requestReplyForSend (h : s.pstate = .requestReplyForSend) :
    shiftComplete v s = requestReplyForSend s := by
  simp [shiftComplete, h]

theorem shiftComplete_checkReplyForSend (h : s.pstate = .checkReplyForSend) :
    shiftComplete v s = checkReplyForSend v s := by
  simp [shiftComplete, h]

theorem shiftComplete_requestData (h : s.pstate = .requestData) : shiftComplete v s = requestData s := by
  simp [shiftComplete, h]

theorem shiftComplete_getDataAndAck (h : s.pstate = .getDataAndAck) : shiftComplete v s = getDataAndAck v s := by
  simp [shiftComplete, h]

end

/-! ### Whole next states -/

/-- Two bytes call the same address exactly if their bits 7:1 agree (30_encoding.md R62). -/
theorem addrMatch_iff {v addr : Byte} :
    addrMatch v addr = true ↔ v.extractLsb' 1 7 = addr.extractLsb' 1 7 := by
  simp [addrMatch, addrField]

/-- R101. -/
theorem startDetector_eq (s : State) :
    startDetector s = { s with
      sdaDir := .input, cnt := 8, shiftPend := false, startEn := true, shiftEn := true,
      pstate := .checkAddress, startPend := false } := rfl

/-- R112. -/
theorem forceIdle_eq (s : State) :
    forceIdle s = { s with shiftEn := false, startEn := true, sdaDir := .input, shiftPend := false } := rfl

/-- R111. -/
theorem ackArm_eq (s : State) :
    ackArm s = { s with sr := 0x00, sdaDir := .output, cnt := 1, shiftPend := false } := rfl

/-- R114, the address of another device. -/
theorem checkAddress_of_mismatch {v : Byte} {s : State} (h : v.extractLsb' 1 7 ≠ s.addr.extractLsb' 1 7) :
    checkAddress v s = forceIdle s := by
  have hm : addrMatch v s.addr = false := Bool.eq_false_of_not_eq_true (mt addrMatch_iff.mp h)
  simp [checkAddress, hm]

/-- R114, the own address for a write. -/
theorem checkAddress_of_write {v : Byte} {s : State} (h : v.extractLsb' 1 7 = s.addr.extractLsb' 1 7)
    (hd : lowBit v = false) :
    checkAddress v s = { s with
      sr := 0x00, sdaDir := .output, cnt := 1, shiftPend := false, rxcur := 0, pstate := .requestData } := by
  simp [checkAddress, addrMatch_iff.mpr h, hd, ackArm_eq, setRxcur, setPstate]

/-- R114, the own address for a read. -/
theorem checkAddress_of_read {v : Byte} {s : State} (h : v.extractLsb' 1 7 = s.addr.extractLsb' 1 7)
    (hd : lowBit v = true) :
    checkAddress v s = { s with
      sr := 0x00, sdaDir := .output, cnt := 1, shiftPend := false, txcur := 0, pstate := .sendData } := by
  simp [checkAddress, addrMatch_iff.mpr h, hd, ackArm_eq, setTxcur, setPstate]

/-- R116. -/
theorem requestReplyForSend_eq (s : State) :
    requestReplyForSend s = { s with
      txcur := s.txcur + 1, sdaDir := .input, cnt := 1, shiftPend := false, pstate := .checkReplyForSend } := rfl

/-- R117, the master's NACK. -/
theorem checkReplyForSend_of_nack {v : Byte} (s : State) (h : lowBit v = true) :
    checkReplyForSend v s = forceIdle s := by
  simp [checkReplyForSend, h]

/-- R117, the master's ACK. -/
theorem checkReplyForSend_of_ack {v : Byte} (s : State) (h : lowBit v = false) :
    checkReplyForSend v s = loadAndArm s := by
  simp [checkReplyForSend, h]

/-- A received byte with room (R119). -/
theorem acceptByte_of_lt {s : State} (v : Byte) (h : s.rxcur < s.cfg.cRx) :
    acceptByte v s = { s with
      rxbuf := Memory.write s.rxbuf s.rxcur v, rxcur := s.rxcur + 1,
      frameStarted := s.frameStarted || (s.rxcur == 0), byteReceived := true } :=
  if_pos h

/-- A received byte without room (R119). -/
theorem acceptByte_of_ge {s : State} (v : Byte) (h : s.cfg.cRx ≤ s.rxcur) :
    acceptByte v s = { s with byteReceived := s.byteReceived || s.cfg.rxFlagOnDiscard } :=
  if_neg (Nat.not_lt.mpr h)

/-- R119 with room for the byte. -/
theorem getDataAndAck_of_lt {s : State} (v : Byte) (h : s.rxcur < s.cfg.cRx) :
    getDataAndAck v s = { s with
      rxbuf := Memory.write s.rxbuf s.rxcur v, rxcur := s.rxcur + 1,
      frameStarted := s.frameStarted || (s.rxcur == 0), byteReceived := true,
      sr := 0x00, sdaDir := .output, cnt := 1, shiftPend := false, pstate := .requestData } := by
  rw [getDataAndAck, acceptByte_of_lt v h, ackArm_eq, setPstate]

/-- R119 without room. -/
theorem getDataAndAck_of_ge {s : State} (v : Byte) (h : s.cfg.cRx ≤ s.rxcur) :
    getDataAndAck v s = { s with
      byteReceived := s.byteReceived || s.cfg.rxFlagOnDiscard,
      sr := 0x00, sdaDir := .output, cnt := 1, shiftPend := false, pstate := .requestData } := by
  rw [getDataAndAck, acceptByte_of_ge v h, ackArm_eq, setPstate]

/-! ### The obligations of class SVC -/

/-- Settles O10: the enabling is R100's, and `startDetector_eq` is the whole next state. -/
theorem startDetectorArmsAddressByte : Obligations.StartDetectorArmsAddressByte := by
  intro sss s hpend hen hinh
  rw [← startDetector_eq]
  exact exec_svcStart_of_ready (startReady_iff.mpr ⟨hpend, hen, hinh⟩) sss

/-- Settles O11: the three branches of R114. -/
theorem checkAddressSelectsTransaction : Obligations.CheckAddressSelectsTransaction := by
  intro s hpend hen hstart hinh hp
  have hexec : exec .checkAddress s = .next (checkAddress s.sr s) := by
    rw [← shiftComplete_checkAddress s.sr hp]
    exact exec_action_of_ready (actionReady_of_triggers hpend hen hstart hinh hp)
  rw [hexec]
  refine ⟨fun hne => ?_, fun heq hw => ?_, fun heq hr => ?_⟩
  · rw [checkAddress_of_mismatch hne, forceIdle_eq]
  · rw [checkAddress_of_write heq hw]
  · rw [checkAddress_of_read heq hr]

/-- Settles O12: SEND_DATA is LOAD_AND_ARM, whose load is not marked since `PSTATE` is not CHECK_REPLY_FOR_SEND. -/
theorem sendDataLoadsOrIdles : Obligations.SendDataLoadsOrIdles := by
  intro s hpend hen hstart hinh hp
  have hexec : exec .sendData s = .next (loadAndArm s) := by
    rw [← shiftComplete_sendData s.sr hp]
    exact exec_action_of_ready (actionReady_of_triggers hpend hen hstart hinh hp)
  rw [hexec]
  refine ⟨fun hlt => ?_, fun hge => ?_⟩
  · simp [loadAndArm_of_lt hlt, hp]
  · rw [loadAndArm_of_ge hge, forceIdle_eq]

/-- Settles O13: R116's five assignments, the arming clearing `SHIFT_PEND`. -/
theorem replyRequestAdvancesTxCursor : Obligations.ReplyRequestAdvancesTxCursor := by
  intro s hpend hen hstart hinh hp
  rw [← requestReplyForSend_eq, ← shiftComplete_requestReplyForSend s.sr hp]
  exact exec_action_of_ready (actionReady_of_triggers hpend hen hstart hinh hp)

/-- Settles O14: the reply bit chooses between FORCE_IDLE and LOAD_AND_ARM, which marks the byte the ACK asked for. -/
theorem replyBitDecidesNextByte : Obligations.ReplyBitDecidesNextByte := by
  intro s hpend hen hstart hinh hp
  have hexec : exec .checkReplyForSend s = .next (checkReplyForSend s.sr s) := by
    rw [← shiftComplete_checkReplyForSend s.sr hp]
    exact exec_action_of_ready (actionReady_of_triggers hpend hen hstart hinh hp)
  rw [hexec]
  refine ⟨fun hn => ?_, fun ha hlt => ?_, fun ha hge => ?_⟩
  · rw [checkReplyForSend_of_nack s hn, forceIdle_eq]
  · simp [checkReplyForSend_of_ack s ha, loadAndArm_of_lt hlt, hp]
  · rw [checkReplyForSend_of_ack s ha, loadAndArm_of_ge hge, forceIdle_eq]

/-- Settles O16: both branches of R119. -/
theorem dataByteStoredOrDiscarded : Obligations.DataByteStoredOrDiscarded := by
  intro s hpend hen hstart hinh hp
  have hexec : exec .getDataAndAck s = .next (getDataAndAck s.sr s) := by
    rw [← shiftComplete_getDataAndAck s.sr hp]
    exact exec_action_of_ready (actionReady_of_triggers hpend hen hstart hinh hp)
  rw [hexec]
  exact ⟨fun hlt => by rw [getDataAndAck_of_lt s.sr hlt], fun hge => by rw [getDataAndAck_of_ge s.sr hge]⟩

/-- Settles O17: each reason negates one conjunct of R100 or R110. -/
theorem serviceNotEnabledIsNotTaken : Obligations.ServiceNotEnabledIsNotTaken := by
  intro s
  refine ⟨fun h sss => exec_svcStart_of_not_ready (fun hready => ?_) sss,
    fun p h => exec_action_of_not_ready fun hready => ?_⟩
  · obtain ⟨hpend, hen, hinh⟩ := startReady_iff.mp hready
    simp [hpend, hen, hinh] at h
  · obtain ⟨hshift, hp⟩ := actionReady_iff.mp hready
    obtain ⟨hpend, hen, hstart, hinh⟩ := shiftReady_iff.mp hshift
    simp [hpend, hen, hstart, hinh, hp] at h

/-! ### The obligation of class MICRO -/

theorem exec_ackArm (s : State) : exec .ackArm s = .next (ackArm s) := rfl

theorem exec_forceIdle (s : State) : exec .forceIdle s = .next (forceIdle s) := rfl

theorem exec_loadAndArm (s : State) : exec .loadAndArm s = .next (loadAndArm s) := rfl

/-- Settles O18: the dispatch runs the three micro-operations in every state (R111 to R113). -/
theorem microOperationEffects : Obligations.MicroOperationEffects := by
  refine fun s => ⟨?_, ?_, fun hlt => ?_, fun hge => ?_⟩
  · rw [exec_ackArm, ackArm_eq]
  · rw [exec_forceIdle, forceIdle_eq]
  · rw [exec_loadAndArm, loadAndArm_of_lt hlt]
  · rw [exec_loadAndArm, loadAndArm_of_ge hge, forceIdle_eq]

end Sys2Proof.Machine
end

section
/-! Obligations of 43_init_and_host_ops.md: the collaborator's operations, each enabled in every state (R153). -/

namespace Sys2Proof.Machine

/-- INIT's six assignments (R140). -/
theorem initialise_eq (s : State) :
    initialise s = { s with
      sdaDir := .input, startPend := false, shiftPend := false, cnt := 0, startEn := true, shiftEn := false } := rfl

/-- Initialising again changes nothing (R140). -/
theorem initialise_initialise (s : State) : initialise (initialise s) = initialise s := by
  simp only [initialise_eq]

theorem exec_init (s : State) : exec .init s = .next (initialise s) := rfl

theorem exec_setAddress (a : Addr7) (s : State) : exec (.setAddress a) s = .next { s with addr := addrReg a } := rfl

theorem exec_rxRead_of_lt {i : Nat} {s : State} (h : i < s.cfg.cRx) :
    exec (.rxRead i) s = .next (deliverHost (.byte (Memory.read s.rxbuf i)) s) :=
  if_pos h

theorem exec_rxRead_of_ge {i : Nat} {s : State} (h : s.cfg.cRx ≤ i) :
    exec (.rxRead i) s = .refused .indexOutOfRange :=
  if_neg (Nat.not_lt.mpr h)

theorem exec_txWrite_of_lt {i : Nat} {s : State} (b : Byte) (h : i < s.cfg.cTx) :
    exec (.txWrite i b) s = .next { s with txbuf := Memory.write s.txbuf i b } :=
  if_pos h

theorem exec_txWrite_of_ge {i : Nat} {s : State} (b : Byte) (h : s.cfg.cTx ≤ i) :
    exec (.txWrite i b) s = .refused .indexOutOfRange :=
  if_neg (Nat.not_lt.mpr h)

/-- An address byte is twice the address with the direction bit added (30_encoding.md R61). -/
theorem addrByte_eq (a : Addr7) (d : Bool) : addrByte a d = BitVec.ofNat 8 (2 * a.toNat + d.toNat) := by
  cases d <;> revert a <;> decide

/-- The content of `ADDR` is twice the device address (30_encoding.md R64). -/
theorem addrReg_eq (a : Addr7) : addrReg a = BitVec.ofNat 8 (2 * a.toNat) := addrByte_eq a false

/-- No service is enabled while services are inhibited (R149, D28). -/
theorem enabledService_of_inhibited {s : State} (h : s.irqInh = true) : enabledService s = none := by
  simp [enabledService, startReady, shiftReady, h]

/-- Settles O20: the idle configuration and the second INIT are read off `initialise_eq`. -/
theorem initEntersIdle : Obligations.InitEntersIdle :=
  fun s => ⟨initialise s, exec_init s, initialise_eq s, by simp [idle], hold_eq_false.mpr ⟨rfl, rfl⟩,
    by rw [exec_init, initialise_initialise]⟩

/-- Settles O21: `addrReg_eq` says what the stored byte is. -/
theorem setAddressStoresShiftedAddress : Obligations.SetAddressStoresShiftedAddress := by
  intro a s
  rw [exec_setAddress, addrReg_eq]

/-- Settles O22: the two sides of the capacity check. -/
theorem rxReadDeliversCell : Obligations.RxReadDeliversCell :=
  fun _ _ => ⟨exec_rxRead_of_lt, exec_rxRead_of_ge⟩

/-- Settles O23: the result latch alone is written. -/
theorem rxcurReadDeliversCursor : Obligations.RxcurReadDeliversCursor :=
  fun _ => rfl

/-- Settles O24: the memory laws say what the written buffer reads as. -/
theorem txWriteStoresByte : Obligations.TxWriteStoresByte := by
  intro i b s
  refine ⟨fun hi hwf => ⟨Memory.write s.txbuf i b, exec_txWrite_of_lt b hi, Memory.write_wf i b hwf,
    Memory.read_write_same i b hwf, fun j hj => Memory.read_write_other b hj⟩, exec_txWrite_of_ge b⟩

/-- Settles O26: the result latch alone is written. -/
theorem flagReadClearsNothing : Obligations.FlagReadClearsNothing :=
  fun _ => rfl

/-- Settles O28: the inhibited state enables no service. -/
theorem inhibitOperationsWriteIrqInh : Obligations.InhibitOperationsWriteIrqInh :=
  fun s => ⟨⟨{ s with irqInh := true }, rfl, rfl, enabledService_of_inhibited rfl⟩, rfl⟩

end Sys2Proof.Machine
end

section
/-! Obligations of 40_shift_unit_and_bus.md sections 2 to 5: the Shift Unit primitives (R81 to R87), the bus events (R90
to R92), and the held clock (R95). -/

namespace Sys2Proof.Machine

theorem exec_srWrite (b : Byte) (s : State) : exec (.srWrite b) s = .next (setSr b s) := rfl

theorem exec_arm_of_legal {n : Nat} (h : n = 1 ∨ n = 8) (s : State) : exec (.arm n) s = .next (armGroup n s) :=
  if_pos h

theorem exec_arm_of_illegal {n : Nat} (h : ¬(n = 1 ∨ n = 8)) (s : State) : exec (.arm n) s = .refused .armLength :=
  if_neg h

/-- The slave leaves the data line free where it is an input or the register's top bit is 1 (R88). -/
theorem slaveSda_eq (s : State) : slaveSda s = (decide (s.sdaDir = .input) || s.sr.getLsbD 7) := by
  cases h : s.sdaDir <;> simp [h]

/-- Settles O29: a register written while the line is driven is on the line by `slaveSda_of_output`. -/
theorem shiftRegisterReadAndWrite : Obligations.ShiftRegisterReadAndWrite :=
  fun b s => ⟨rfl, setSr b s, exec_srWrite b s, rfl, fun hd => slaveSda_of_output (s := setSr b s) hd⟩

/-- Settles O31: the two sides of the length check. -/
theorem armTakesOneOrEight : Obligations.ArmTakesOneOrEight := by
  refine fun n s => ⟨fun h => exec_arm_of_legal h s, fun h1 h8 => exec_arm_of_illegal ?_ s⟩
  rintro (h | h)
  · exact h1 h
  · exact h8 h

/-- Settles O33: the resolved levels with `slaveSda_eq` for the data line. -/
theorem lineReadResolvesLines : Obligations.LineReadResolvesLines := by
  intro s
  rw [← slaveSda_eq]
  rfl

/-! ### Bus events -/

theorem exec_busStart_of_free {s : State} (h : conditionBlocked s = none) : exec .busStart s = .next (busStart s) := by
  simp [exec, execBusStart, h]

theorem exec_busStart_of_blocked {s : State} {r : Refusal} (h : conditionBlocked s = some r) :
    exec .busStart s = .refused r := by
  simp [exec, execBusStart, h]

theorem exec_busStop_of_free {s : State} (h : conditionBlocked s = none) : exec .busStop s = .next s := by
  simp [exec, execBusStop, h]

theorem exec_busStop_of_blocked {s : State} {r : Refusal} (h : conditionBlocked s = some r) :
    exec .busStop s = .refused r := by
  simp [exec, execBusStop, h]

theorem exec_busBit_of_free {s : State} (m : Bool) (h : hold s = false) : exec (.busBit m) s = .next (busBit m s) := by
  simp [exec, execBusBit, h]

theorem exec_busBit_of_held {s : State} (m : Bool) (h : hold s = true) :
    exec (.busBit m) s = .refused .clockHeld := by
  simp [exec, execBusBit, h]

/-- A start on a free clock becomes pending exactly if its trigger is enabled (R90). -/
theorem busStart_of_free {s : State} (h : hold s = false) : busStart s = { s with startPend := s.startEn } := by
  simp [busStart, (hold_eq_false.mp h).1]

/-- A start is not noticed while its trigger is disabled (R90). -/
theorem busStart_of_disabled {s : State} (h : s.startEn = false) : busStart s = s := by
  have hp : (s.startPend || s.startEn) = s.startPend := by simp [h]
  simp only [busStart, hp]

/-- A low data line or a byte that keeps starts away blocks both conditions (R90, R92, R189). -/
theorem conditionBlocked_of_low {s : State} (hh : hold s = false) (h : slaveSda s = false ∨ byteHeld s = true) :
    conditionBlocked s = some .dataLineLow := by
  rcases h with h | h
  · simp [conditionBlocked, hh, h]
  · exact conditionBlocked_of_byteHeld hh h

/-- Settles O34: `conditionBlocked` decides the event, `busStart_of_free` says what it does. -/
theorem busStartMarksStartPending : Obligations.BusStartMarksStartPending := by
  refine fun s => ⟨fun hh hl hb he => ?_, fun hh hl hb he => ?_, fun hh => ?_, fun hh hlow => ?_⟩
  · rw [exec_busStart_of_free (conditionBlocked_of_free hh hl hb), busStart_of_free hh, he]
  · rw [exec_busStart_of_free (conditionBlocked_of_free hh hl hb), busStart_of_disabled he]
  · exact exec_busStart_of_blocked (conditionBlocked_of_held hh)
  · exact exec_busStart_of_blocked (conditionBlocked_of_low hh hlow)

/-- Settles O35: the shift is a doubling by `shiftIn_toNat`; a free clock means that no completion was pending. -/
theorem busBitShiftsAndCounts : Obligations.BusBitShiftsAndCounts := by
  refine fun m s => ⟨fun hh => ?_, exec_busBit_of_held m⟩
  have hcnt : (if 1 ≤ s.cnt then s.cnt - 1 else 0) = s.cnt - 1 := by split <;> omega
  have hbeq : (s.cnt == 1) = decide (s.cnt = 1) := rfl
  rw [exec_busBit_of_free m hh, hcnt, hbeq]
  simp only [busBit, shiftIn_toNat, (hold_eq_false.mp hh).2, Bool.false_or, sdaLevel]

/-- Settles O36: the same condition decides the stop. -/
theorem busStopChangesNothing : Obligations.BusStopChangesNothing :=
  fun _ => ⟨fun hh hl hb => exec_busStop_of_free (conditionBlocked_of_free hh hl hb),
    fun hh => exec_busStop_of_blocked (conditionBlocked_of_held hh),
    fun hh hlow => exec_busStop_of_blocked (conditionBlocked_of_low hh hlow)⟩

/-! ### Wire formats -/

/-- A wire format is the transfer of one to eight slots (log 11). -/
theorem exec_wire {i : Instr} (h : i.opClass = .wire) :
    ∃ m ms, (∀ s, exec i s = transfer (m :: ms) s) ∧ ms.length < 8 := by
  cases i <;> simp only [Instr.opClass, reduceCtorEq] at h
  case slaW a => exact ⟨_, _, fun _ => rfl, Nat.lt_succ_self 7⟩
  case slaR a => exact ⟨_, _, fun _ => rfl, Nat.lt_succ_self 7⟩
  case ack => exact ⟨_, _, fun _ => rfl, Nat.zero_lt_succ 7⟩
  case nack => exact ⟨_, _, fun _ => rfl, Nat.zero_lt_succ 7⟩
  case data d => exact ⟨_, _, fun _ => rfl, Nat.lt_succ_self 7⟩

/-- No slot passes while the clock is held (R95). -/
theorem transfer_of_held {m : Bool} {ms : List Bool} {s : State} (h : hold s = true) :
    transfer (m :: ms) s = .refused .clockHeld := by
  simp [transfer, slots, slot, h]

/-- A transfer that completes went through all its slots. -/
theorem transfer_eq_next {ms : List Bool} {s t : State} : transfer ms s = .next t ↔ slots ms s = some t := by
  unfold transfer
  cases slots ms s <;> simp

/-- Settles O44: the three bus events by their conditions, a wire format at its first slot. -/
theorem heldClockStopsTheBus : Obligations.HeldClockStopsTheBus := by
  rintro s i hh (hbus | hwire)
  · cases i <;> simp only [Instr.opClass, reduceCtorEq] at hbus
    case busStart => exact exec_busStart_of_blocked (conditionBlocked_of_held hh)
    case busBit m => exact exec_busBit_of_held m hh
    case busStop => exact exec_busStop_of_blocked (conditionBlocked_of_held hh)
  · obtain ⟨m, ms, hexec, -⟩ := exec_wire hwire
    rw [hexec, transfer_of_held hh]

end Sys2Proof.Machine
end

section
/-! Obligations of 20_memory.md section 4 and 60_exceptions.md: which agent takes a step (R49, R166, R172; log 9, 10,
14). -/

namespace Sys2Proof.Machine

/-- With no input the block is alone. -/
theorem step_of_no_input {s : State} (h : s.inputs = []) : step s = stepCore s := by
  simp [step, stepNext, h]

/-- An enabled service goes before an input that is not marked early. -/
theorem step_of_service_first {s : State} {it : Input} {rest : List Input} (hq : s.inputs = it :: rest)
    (hs : (enabledService s).isSome = true) (he : it.early = false) : step s = stepCore s := by
  simp [step, stepNext, hq, hs, he]

/-- The first input is taken where it is early or no service is enabled. -/
theorem step_of_input_first {s : State} {it : Input} {rest : List Input} (hq : s.inputs = it :: rest)
    (h : it.early = true ∨ enabledService s = none) : step s = stepInput it rest s := by
  rcases h with h | h <;> simp [step, stepNext, hq, h]

/-- The block alone runs the enabled service. -/
theorem stepCore_of_service {s : State} {i : Instr} (h : enabledService s = some i) : stepCore s = exec i s := by
  simp [stepCore, h]

/-- A refusal that is no wait ends the step. -/
theorem stepInput_of_refused {it : Input} {rest : List Input} {s : State} {r : Refusal}
    (h : runInput it { s with inputs := rest } = .refused r) (hw : r.waits = false) :
    stepInput it rest s = .refused r := by
  simp [stepInput, h, hw]

/-- A refusal that is a wait lets others pass. -/
theorem stepInput_of_waits {it : Input} {rest : List Input} {s : State} {r : Refusal}
    (h : runInput it { s with inputs := rest } = .refused r) (hw : r.waits = true) :
    stepInput it rest s = stepWaiting it rest s := by
  simp [stepInput, h, hw]

/-- A next state of the input is the step's. -/
theorem stepInput_of_next {it : Input} {rest : List Input} {s t : State}
    (h : runInput it { s with inputs := rest } = .next t) : stepInput it rest s = .next t := by
  simp [stepInput, h]

/-- A waiting agent lets the enabled service run as the block alone would. -/
theorem stepWaiting_of_service {s : State} (it : Input) (rest : List Input) (h : (enabledService s).isSome = true) :
    stepWaiting it rest s = stepCore s := by
  obtain ⟨svc, hs⟩ := Option.isSome_iff_exists.mp h
  simp [stepWaiting, stepCore, hs]

/-- With no service enabled a waiting agent lets the collaborator pass. -/
theorem stepWaiting_of_host {s : State} {it jt : Input} {rest rest' : List Input} (hs : enabledService s = none)
    (htake : takeHost rest = some (jt, rest')) :
    stepWaiting it rest s = runInput jt { s with inputs := it :: rest' } := by
  simp [stepWaiting, hs, htake]

/-- With no service enabled and no input of the collaborator everything waits. -/
theorem stepWaiting_of_nothing {s : State} {it : Input} {rest : List Input} (hs : enabledService s = none)
    (htake : takeHost rest = none) : stepWaiting it rest s = .next s := by
  simp [stepWaiting, hs, htake]

/-- Settles O4: the input is taken first, and `stepInput` hands its outcome on. -/
theorem stepRunsDecodedInput : Obligations.StepRunsDecodedInput := by
  intro s it rest i hq hd ha hfirst
  rw [step_of_input_first hq hfirst]
  refine ⟨fun t ht => stepInput_of_next ?_, fun r hr hw => stepInput_of_refused ?_ hw⟩
  · rw [runInput_of_agent hd ha, ht]
  · rw [runInput_of_agent hd ha, hr]

/-- An enabled service runs where the first input, if there is one, is not early. -/
theorem step_of_service {s : State} {i : Instr} (hs : enabledService s = some i)
    (h : ∀ it ∈ s.inputs.head?, it.early = false) : step s = exec i s := by
  rw [← stepCore_of_service hs]
  cases hq : s.inputs with
  | nil => exact step_of_no_input hq
  | cons it rest => exact step_of_service_first hq (by simp [hs]) (h it (by simp [hq]))

/-- Settles O5: which service is enabled follows from the trigger conditions, the start trigger first. -/
theorem stepServesEnabledTrigger : Obligations.StepServesEnabledTrigger := by
  refine fun s hearly => ⟨fun hpend hen hinh => ?_, fun hpend hen hstart hinh => ?_⟩
  · exact step_of_service (enabledService_of_startReady (startReady_iff.mpr ⟨hpend, hen, hinh⟩)) hearly
  · exact step_of_service (enabledService_of_shiftReady (shiftReady_iff.mpr ⟨hpend, hen, hstart, hinh⟩)) hearly

/-- An agent that waits as the first one is passed, whether a service pre-empts its input or finds it waiting. -/
theorem step_of_first_waits {s : State} {it : Input} {rest : List Input} {r : Refusal} (hq : s.inputs = it :: rest)
    (hr : runInput it { s with inputs := rest } = .refused r) (hw : r.waits = true) :
    step s = stepWaiting it rest s := by
  by_cases hfirst : it.early = true ∨ enabledService s = none
  · rw [step_of_input_first hq hfirst, stepInput_of_waits hr hw]
  · obtain ⟨hearly, hnone⟩ := not_or.mp hfirst
    obtain ⟨svc, hs⟩ := Option.ne_none_iff_exists'.mp hnone
    have hsome : (enabledService s).isSome = true := by simp [hs]
    rw [step_of_service_first hq hsome (Bool.eq_false_of_not_eq_true hearly), stepWaiting_of_service it rest hsome]

/-- Settles O6: the three ways `stepWaiting` goes on. -/
theorem stepLetsOthersPassAWaitingAgent : Obligations.StepLetsOthersPassAWaitingAgent := by
  intro s it rest i r hq hd ha hr hw
  rw [step_of_first_waits hq (by rw [runInput_of_agent hd ha, hr]) hw]
  refine ⟨fun svc hs => ?_, fun hnone => ⟨fun jt j rest' htake hdj haj => ?_, stepWaiting_of_nothing hnone⟩⟩
  · rw [stepWaiting_of_service it rest (by simp [hs]), stepCore_of_service hs]
  · rw [stepWaiting_of_host hnone htake, runInput_of_agent hdj haj]

/-- The master's operations are the bus events and the wire formats (40_shift_unit_and_bus.md R80). -/
theorem agent_eq_master {i : Instr} : i.agent = .master ↔ i.opClass = .bus ∨ i.opClass = .wire := by
  unfold Instr.agent
  cases i.opClass <;> simp [OpClass.agent]

/-- An operation of another agent is refused when its input is taken first. -/
theorem step_refuses_other_agent {s : State} {it : Input} {rest : List Input} {i : Instr} (hq : s.inputs = it :: rest)
    (hfirst : it.early = true ∨ enabledService s = none) (hd : decodeWhole it.bytes = .ok i)
    (ha : i.agent ≠ it.agent) : step s = .refused .notOffered := by
  rw [step_of_input_first hq hfirst]
  exact stepInput_of_refused (runInput_of_other_agent hd ha _) rfl

/-- Settles O7: bytes without an operation, and the three ways an operation is not its agent's. -/
theorem stepRefusesUnassignedCode : Obligations.StepRefusesUnassignedCode := by
  intro s it rest hq hfirst
  refine ⟨fun e he => ?_, fun i hd => ⟨fun hit hhost => ?_, fun hit hbus hwire => ?_, fun hit hcls => ?_⟩⟩
  · rw [step_of_input_first hq hfirst]
    exact stepInput_of_refused (by simp [runInput, he]) rfl
  · refine step_refuses_other_agent hq hfirst hd fun ha => hhost (agent_eq_collaborator.mp (ha.trans hit))
  · refine step_refuses_other_agent hq hfirst hd fun ha => ?_
    rcases agent_eq_master.mp (ha.trans hit) with h | h
    · exact hbus h
    · exact hwire h
  · refine step_refuses_other_agent hq hfirst hd fun ha => hit (ha ▸ ?_)
    unfold Instr.agent
    rcases hcls with h | h | h <;> rw [h] <;> rfl

/-- Settles O8: the block alone with no service enabled. -/
theorem quiescentStepChangesNothing : Obligations.QuiescentStepChangesNothing := by
  intro s h
  obtain ⟨hq, hs⟩ : s.inputs = [] ∧ enabledService s = none := by simpa [quiescent] using h
  rw [step_of_no_input hq, stepCore_eq, serve_of_none hs]

end Sys2Proof.Machine
end

section
/-! What an operation that completes does, said once: one rule per row of spec/opcode_table.json, by the agent that has
the row (00_scope.md R6), and one rule per branch of the Shift Engine's actions. -/

namespace Sys2Proof.Machine

/-- A collaborator operation that completes (43_init_and_host_ops.md R140 to R150). -/
inductive HostStep : Instr → State → State → Prop
  | init (s : State) : HostStep .init s { s with
      sdaDir := .input, startPend := false, shiftPend := false, cnt := 0, startEn := true, shiftEn := false }
  | setAddress (a s) : HostStep (.setAddress a) s { s with addr := addrReg a }
  | rxRead (k) (s : State) : HostStep (.rxRead k) s (deliverHost (.byte (Memory.read s.rxbuf k)) s)
  | rxcurRead (s : State) : HostStep .rxcurRead s (deliverHost (.cursor s.rxcur) s)
  | txWrite (k b) (s : State) (hk : k < s.cfg.cTx) :
      HostStep (.txWrite k b) s { s with txbuf := Memory.write s.txbuf k b }
  | txcurReset (s) : HostStep .txcurReset s (setTxcur 0 s)
  | flagRead (s : State) : HostStep .flagRead s (deliverHost (.flags s.frameStarted s.byteReceived) s)
  | clrFrameStarted (s) : HostStep .clrFrameStarted s (clearFrameStarted s)
  | clrByteReceived (s) : HostStep .clrByteReceived s (clearByteReceived s)
  | irqDisable (s) : HostStep .irqDisable s { s with irqInh := true }
  | irqEnable (s) : HostStep .irqEnable s { s with irqInh := false }

/-- A bus event or wire format that completes (40_shift_unit_and_bus.md R90 to R92, log 11). -/
inductive MasterStep : Instr → State → State → Prop
  | wire {i s t} (ms : List Bool) (hc : i.opClass = .wire) (h : slots ms s = some t) : MasterStep i s t
  | busStart {s} (h : conditionBlocked s = none) : MasterStep .busStart s (busStart s)
  | busBit {s} (m : Bool) (h : hold s = false) : MasterStep (.busBit m) s (busBit m s)
  | busStop (s) : MasterStep .busStop s s

/-- A service, micro-operation or primitive that completes: the CORE's own (41_start_detector.md, 42_shift_engine.md,
40_shift_unit_and_bus.md section 2). -/
inductive CoreStep : Instr → State → State → Prop
  | start {s} (sss : BitVec 3) (h : startReady s = true) : CoreStep (.svcStart sss) s { s with
      sdaDir := .input, cnt := 8, shiftPend := false, startEn := true, shiftEn := true,
      pstate := .checkAddress, startPend := false }
  | action {s} (p : PState) (h : actionReady p s = true) : CoreStep p.action s (shiftComplete s.sr s)
  | ackArm (s : State) : CoreStep .ackArm s { s with
      sr := 0x00, sdaDir := .output, cnt := 1, shiftPend := false }
  | forceIdle (s : State) : CoreStep .forceIdle s { s with
      shiftEn := false, startEn := true, sdaDir := .input, shiftPend := false }
  | loadAndArm (s) : CoreStep .loadAndArm s (loadAndArm s)
  | srRead (s : State) : CoreStep .srRead s (deliverUnit (.byte s.sr) s)
  | srWrite (b s) : CoreStep (.srWrite b) s (setSr b s)
  | sdaDirSet (d s) : CoreStep (.sdaDirSet d) s (setSdaDir d s)
  | arm (n s) : CoreStep (.arm n) s (armGroup n s)
  | trigSet (se he s) : CoreStep (.trigSet se he) s (setTriggers se he s)
  | lineRead (s) (r : UnitResult) : CoreStep .lineRead s { deliverUnit r s with freeIdx := s.freeIdx + 1 }

/-- A collaborator operation that answers a next state did what its rule says. -/
theorem hostStep_of_exec {i : Instr} {s t : State} (hc : i.opClass = .host) (h : exec i s = .next t) :
    HostStep i s t := by
  cases i <;> simp only [Instr.opClass, reduceCtorEq] at hc
  case rxRead k =>
    rcases Nat.lt_or_ge k s.cfg.cRx with hk | hk
    · rw [exec_rxRead_of_lt hk] at h; cases h; exact .rxRead k s
    · rw [exec_rxRead_of_ge hk] at h; cases h
  case txWrite k b =>
    rcases Nat.lt_or_ge k s.cfg.cTx with hk | hk
    · rw [exec_txWrite_of_lt b hk] at h; cases h; exact .txWrite k b s hk
    · rw [exec_txWrite_of_ge b hk] at h; cases h
  all_goals cases h; constructor

/-- A bus event or wire format that answers a next state did what its rule says. -/
theorem masterStep_of_exec {i : Instr} {s t : State} (hc : i.opClass = .bus ∨ i.opClass = .wire)
    (h : exec i s = .next t) : MasterStep i s t := by
  rcases hc with hbus | hwire
  · cases i <;> simp only [Instr.opClass, reduceCtorEq] at hbus
    case busStart =>
      cases hb : conditionBlocked s with
      | none => rw [exec_busStart_of_free hb] at h; cases h; exact .busStart hb
      | some r => rw [exec_busStart_of_blocked hb] at h; cases h
    case busBit m =>
      cases hh : hold s with
      | false => rw [exec_busBit_of_free m hh] at h; cases h; exact .busBit m hh
      | true => rw [exec_busBit_of_held m hh] at h; cases h
    case busStop =>
      cases hb : conditionBlocked s with
      | none => rw [exec_busStop_of_free hb] at h; cases h; exact .busStop s
      | some r => rw [exec_busStop_of_blocked hb] at h; cases h
  · obtain ⟨m, ms, hexec, -⟩ := exec_wire hwire
    rw [hexec] at h
    exact .wire (m :: ms) hwire (transfer_eq_next.mp h)

/-- An action of the Shift Engine that answers a next state was the enabled service. -/
theorem coreStep_of_exec_action {p : PState} {s t : State} (h : exec p.action s = .next t) :
    CoreStep p.action s t := by
  by_cases hr : actionReady p s = true
  · rw [exec_action_of_ready hr] at h; cases h; exact .action p hr
  · rw [exec_action_of_not_ready hr] at h; cases h

/-- An operation of the CORE that answers a next state did what its rule says. -/
theorem coreStep_of_exec {i : Instr} {s t : State} (hc : i.agent = .core) (h : exec i s = .next t) :
    CoreStep i s t := by
  cases i <;> simp only [Instr.agent, Instr.opClass, OpClass.agent, reduceCtorEq] at hc
  case svcStart sss =>
    by_cases hr : startReady s = true
    · rw [exec_svcStart_of_ready hr] at h; cases h; exact .start sss hr
    · rw [exec_svcStart_of_not_ready hr] at h; cases h
  case checkAddress => exact coreStep_of_exec_action (p := .checkAddress) h
  case sendData => exact coreStep_of_exec_action (p := .sendData) h
  case requestReplyForSend => exact coreStep_of_exec_action (p := .requestReplyForSend) h
  case checkReplyForSend => exact coreStep_of_exec_action (p := .checkReplyForSend) h
  case requestData => exact coreStep_of_exec_action (p := .requestData) h
  case getDataAndAck => exact coreStep_of_exec_action (p := .getDataAndAck) h
  case arm n =>
    by_cases hn : n = 1 ∨ n = 8
    · rw [exec_arm_of_legal hn] at h; cases h; exact .arm n s
    · rw [exec_arm_of_illegal hn] at h; cases h
  all_goals cases h; constructor

/-- An operation that answers a next state did what the rule of its row says. -/
theorem exec_cases {i : Instr} {s t : State} (h : exec i s = .next t) :
    HostStep i s t ∨ MasterStep i s t ∨ CoreStep i s t := by
  cases hi : i.agent with
  | collaborator => exact .inl (hostStep_of_exec (agent_eq_collaborator.mp hi) h)
  | master => exact .inr (.inl (masterStep_of_exec (agent_eq_master.mp hi) h))
  | core => exact .inr (.inr (coreStep_of_exec hi h))

/-! ### The Shift Engine -/

/-- What the Shift Engine's action at `SHIFT_COMPLETE(v)` does: one rule per branch of R114 to R119, the branches that
force idle under one rule. -/
inductive ActionStep (v : Byte) (s : State) : State → Prop
  | idle : ActionStep v s { s with shiftEn := false, startEn := true, sdaDir := .input, shiftPend := false }
  | write (hp : s.pstate = .checkAddress) : ActionStep v s { s with
      sr := 0x00, sdaDir := .output, cnt := 1, shiftPend := false, rxcur := 0, pstate := .requestData }
  | read : ActionStep v s { s with
      sr := 0x00, sdaDir := .output, cnt := 1, shiftPend := false, txcur := 0, pstate := .sendData }
  | load (h : s.txcur < s.cfg.cTx) : ActionStep v s { s with
      sr := Memory.read s.txbuf s.txcur, sdaDir := .output, cnt := 8, shiftPend := false,
      pstate := .requestReplyForSend,
      ackedLow := decide (s.pstate = .checkReplyForSend) && !(Memory.read s.txbuf s.txcur).getLsbD 7 }
  | awaitReply (hp : s.pstate = .requestReplyForSend) : ActionStep v s { s with
      txcur := s.txcur + 1, sdaDir := .input, cnt := 1, shiftPend := false, pstate := .checkReplyForSend }
  | receive (hp : s.pstate = .requestData) : ActionStep v s { s with
      sdaDir := .input, cnt := 8, shiftPend := false, pstate := .getDataAndAck }
  | store (hp : s.pstate = .getDataAndAck) (h : s.rxcur < s.cfg.cRx) : ActionStep v s { s with
      rxbuf := Memory.write s.rxbuf s.rxcur v, rxcur := s.rxcur + 1,
      frameStarted := s.frameStarted || (s.rxcur == 0), byteReceived := true,
      sr := 0x00, sdaDir := .output, cnt := 1, shiftPend := false, pstate := .requestData }
  | discard (hp : s.pstate = .getDataAndAck) : ActionStep v s { s with
      byteReceived := s.byteReceived || s.cfg.rxFlagOnDiscard,
      sr := 0x00, sdaDir := .output, cnt := 1, shiftPend := false, pstate := .requestData }

/-- LOAD_AND_ARM loads or forces idle (R113). -/
theorem actionStep_loadAndArm (v : Byte) (s : State) : ActionStep v s (loadAndArm s) := by
  rcases Nat.lt_or_ge s.txcur s.cfg.cTx with hlt | hge
  · rw [loadAndArm_of_lt hlt]; exact .load hlt
  · rw [loadAndArm_of_ge hge]; exact .idle

/-- Every action of the Shift Engine is one of the rules. -/
theorem actionStep_shiftComplete (v : Byte) (s : State) : ActionStep v s (shiftComplete v s) := by
  cases hp : s.pstate with
  | checkAddress =>
    rw [shiftComplete_checkAddress v hp]
    by_cases heq : v.extractLsb' 1 7 = s.addr.extractLsb' 1 7
    · cases hd : lowBit v
      · rw [checkAddress_of_write heq hd]; exact .write hp
      · rw [checkAddress_of_read heq hd]; exact .read
    · rw [checkAddress_of_mismatch heq]; exact .idle
  | sendData => rw [shiftComplete_sendData v hp]; exact actionStep_loadAndArm v s
  | requestReplyForSend =>
    rw [shiftComplete_requestReplyForSend v hp, requestReplyForSend_eq]; exact .awaitReply hp
  | checkReplyForSend =>
    rw [shiftComplete_checkReplyForSend v hp]
    cases hv : lowBit v
    · rw [checkReplyForSend_of_ack s hv]; exact actionStep_loadAndArm v s
    · rw [checkReplyForSend_of_nack s hv]; exact .idle
  | requestData => rw [shiftComplete_requestData v hp, requestData_eq]; exact .receive hp
  | getDataAndAck =>
    rw [shiftComplete_getDataAndAck v hp]
    rcases Nat.lt_or_ge s.rxcur s.cfg.cRx with hlt | hge
    · rw [getDataAndAck_of_lt v hlt]; exact .store hp hlt
    · rw [getDataAndAck_of_ge v hge]; exact .discard hp

/-! ### Whole runs -/

/-- What a bit slot and every service keep, a sequence of slots keeps. -/
theorem slots_preserve {P : State → Prop} (hbit : ∀ m s, hold s = false → P s → P (busBit m s))
    (hserve : ∀ s, P s → P (serve s)) {ms : List Bool} {s t : State} (h : slots ms s = some t) (hs : P s) : P t := by
  induction ms generalizing s with
  | nil => cases h; exact hs
  | cons m ms ih =>
    rw [slots_cons, Option.bind_eq_some_iff] at h
    obtain ⟨u, hu, ht⟩ := h
    obtain ⟨hh, rfl⟩ := slot_eq_some.mp hu
    exact ih ht (hserve _ (hbit m s hh hs))

/-- What a bit slot, a start and every service keep, the master's operations keep. -/
theorem masterStep_preserve {P : State → Prop} (hbit : ∀ m s, hold s = false → P s → P (busBit m s))
    (hstart : ∀ s, conditionBlocked s = none → P s → P (busStart s)) (hserve : ∀ s, P s → P (serve s))
    {i : Instr} {s t : State} (h : MasterStep i s t) (hs : P s) : P t := by
  cases h with
  | wire ms hc h => exact slots_preserve hbit hserve h hs
  | busStart h => exact hstart s h hs
  | busBit m h => exact hbit m s h hs
  | busStop => exact hs

/-- A step with inputs of the environment only: what every service, a shorter queue and the operations of the
collaborator and the master keep, the step keeps. -/
theorem step_preserve {P : State → Prop} (hserve : ∀ s, P s → P (serve s))
    (hqueue : ∀ s rest, (∀ x ∈ rest, x ∈ s.inputs) → P s → P { s with inputs := rest })
    (hhost : ∀ i s t, HostStep i s t → P s → P t) (hmaster : ∀ i s t, MasterStep i s t → P s → P t)
    {s t : State} (henv : ∀ it ∈ s.inputs, Input.environment it = true) (h : step s = .next t) (hs : P s) : P t := by
  rcases step_cases h with rfl | ⟨it, i, rest, hmem, -, hagent, hrest, hexec⟩
  · exact hserve s hs
  · have hcore : i.agent ≠ .core := by simpa [Input.environment, hagent] using henv it hmem
    have hq := hqueue s rest hrest hs
    rcases agent_ne_core.mp hcore with hw | hb | hh
    · exact hmaster i _ t (masterStep_of_exec (.inr hw) hexec) hq
    · exact hmaster i _ t (masterStep_of_exec (.inl hb) hexec) hq
    · exact hhost i _ t (hostStep_of_exec hh hexec) hq

end Sys2Proof.Machine
end

section
/-! Obligations of 10_state.md section 3 and 60_exceptions.md: the invariant (R27, R166) after power-on and along every
step, what it gives of the services (R110, R112, R169), and what every step keeps of the start trigger (R21). -/

namespace Sys2Proof.Machine

/-- The Start Detector leaves an address byte armed with both triggers enabled, whatever was pending (R101). -/
theorem inv_startDetector {s : State} (h : Inv s) : Inv (startDetector s) := by
  rw [startDetector_eq]
  exact { h with
    sendingBound := by simp
    cntBound := by simp
    disabledUnarmed := by simp
    enabledStart := by simp
    pendingStart := by simp
    onePending := by simp
    pendingUnarmed := by simp
    driving := by simp }

/-- An action that the pending completion enables keeps the invariant: at its entry no group is armed and no start is
pending. -/
theorem inv_of_actionStep {v : Byte} {s t : State} (h : Inv s) (hready : shiftReady s = true)
    (hstep : ActionStep v s t) : Inv t := by
  obtain ⟨hpend, hen, -, -⟩ := shiftReady_iff.mp hready
  have hcnt := h.pendingUnarmed hpend
  cases hstep with
  | idle =>
    exact { h with
      disabledUnarmed := by simp [hcnt]
      enabledStart := by simp
      pendingStart := by simp
      onePending := by simp
      pendingUnarmed := by simp
      driving := by simp }
  | write =>
    exact { h with
      rxcurBound := by simp
      sendingBound := by simp
      cntBound := by simp
      disabledUnarmed := by simp [hen]
      onePending := by simp
      pendingUnarmed := by simp
      driving := by simp [hen] }
  | read =>
    exact { h with
      txcurBound := by simp
      sendingBound := by simp
      cntBound := by simp
      disabledUnarmed := by simp [hen]
      onePending := by simp
      pendingUnarmed := by simp
      driving := by simp [hen] }
  | load hlt =>
    exact { h with
      sendingBound := by simp [hlt]
      cntBound := by simp
      disabledUnarmed := by simp [hen]
      onePending := by simp
      pendingUnarmed := by simp
      driving := by simp [hen] }
  | awaitReply hp =>
    exact { h with
      txcurBound := by simpa using h.sendingBound hp
      sendingBound := by simp
      cntBound := by simp
      disabledUnarmed := by simp [hen]
      onePending := by simp
      pendingUnarmed := by simp
      driving := by simp }
  | receive =>
    exact { h with
      sendingBound := by simp
      cntBound := by simp
      disabledUnarmed := by simp [hen]
      onePending := by simp
      pendingUnarmed := by simp
      driving := by simp }
  | store hp hlt =>
    exact { h with
      rxcurBound := by simpa using hlt
      sendingBound := by simp
      cntBound := by simp
      disabledUnarmed := by simp [hen]
      onePending := by simp
      pendingUnarmed := by simp
      driving := by simp [hen]
      rxbufForm := by simpa using Memory.write_wf s.rxcur v h.rxbufForm
      rxbufWithin := by simpa using Memory.write_within v hlt h.rxbufWithin }
  | discard =>
    exact { h with
      sendingBound := by simp
      cntBound := by simp
      disabledUnarmed := by simp [hen]
      onePending := by simp
      pendingUnarmed := by simp
      driving := by simp [hen] }

/-- Every service keeps the invariant. -/
theorem inv_serve (s : State) (h : Inv s) : Inv (serve s) := by
  rcases serve_cases s with ⟨-, hs⟩ | ⟨-, hs⟩ | ⟨hready, hs⟩ <;> rw [hs]
  · exact h
  · exact inv_startDetector h
  · exact inv_of_actionStep h hready (actionStep_shiftComplete s.sr s)

/-- A slot on a free clock keeps the invariant: the last slot of a driving group leaves its completion pending. -/
theorem inv_busBit (m : Bool) (s : State) (hh : hold s = false) (h : Inv s) : Inv (busBit m s) := by
  obtain ⟨hstart, hpend⟩ := hold_eq_false.mp hh
  have hcnt := h.cntBound
  refine { h with
    cntBound := by simp; omega
    disabledUnarmed := fun hen => ?_
    onePending := by simp [hstart]
    pendingUnarmed := fun hp => ?_
    driving := fun hd => ?_ }
  · obtain ⟨hzero, -⟩ := h.disabledUnarmed hen
    simp [hzero, hpend]
  · have hone : s.cnt = 1 := by
      simp only [busBit_shiftPend, hpend, Bool.false_or, Bool.and_eq_true, decide_eq_true_eq] at hp
      exact hp.1
    simp [hone]
  · obtain ⟨hen, harmed, hphase⟩ := h.driving hd
    have hpos : 0 < s.cnt := harmed.resolve_right (by simp [hpend])
    refine ⟨hen, ?_, hphase⟩
    rcases Nat.lt_or_ge 1 s.cnt with hmore | hlast
    · exact .inl (by simpa using hmore)
    · exact .inr (by simp [hen, show s.cnt = 1 by omega])

/-- An event that nothing blocks finds the clock free (R90, R92). -/
theorem hold_of_not_blocked {s : State} (h : conditionBlocked s = none) : hold s = false := by
  cases hh : hold s with
  | false => rfl
  | true => simp [conditionBlocked_of_held hh] at h

/-- A start on a free clock keeps the invariant: no completion is pending beside it. -/
theorem inv_busStart (s : State) (hb : conditionBlocked s = none) (h : Inv s) : Inv (busStart s) := by
  obtain ⟨hstart, hpend⟩ := hold_eq_false.mp (hold_of_not_blocked hb)
  exact { h with
    pendingStart := by simp [hstart]
    onePending := fun _ => hpend }

/-- The collaborator's operations keep the invariant. -/
theorem inv_of_hostStep (i : Instr) (s t : State) (hstep : HostStep i s t) (h : Inv s) : Inv t := by
  cases hstep with
  | init =>
    exact { h with
      cntBound := by simp
      disabledUnarmed := by simp
      enabledStart := by simp
      pendingStart := by simp
      onePending := by simp
      pendingUnarmed := by simp
      driving := by simp }
  | txWrite k b _ hk =>
    exact { h with
      txbufForm := Memory.write_wf k b h.txbufForm
      txbufWithin := Memory.write_within b hk h.txbufWithin }
  | txcurReset =>
    exact { h with
      txcurBound := Nat.zero_le _
      sendingBound := fun _ => h.txCapacity }
  | setAddress | rxRead | rxcurRead | flagRead | clrFrameStarted | clrByteReceived | irqDisable | irqEnable =>
    exact { h with }

/-- Any queue of the environment's inputs keeps the invariant. -/
theorem inv_withInputs {s : State} {its : List Input} (h : Inv s)
    (hi : ∀ it ∈ its, Input.environment it = true) : Inv { s with inputs := its } :=
  { h with inputsEnvironment := hi }

/-- Settles O51: each rule of a step keeps the invariant. -/
theorem stepKeepsTheInvariant : Obligations.StepKeepsTheInvariant := by
  intro s t h hstep
  exact step_preserve (P := Inv) inv_serve
    (fun u rest hsub hu => inv_withInputs hu fun it hit => hu.inputsEnvironment it (hsub it hit))
    inv_of_hostStep (fun _ _ _ => masterStep_preserve inv_busBit inv_busStart inv_serve)
    h.inputsEnvironment hstep h

/-- Settles O50: every bound is at 0, nothing is enabled, and `PowerOn.valid` says the rest. -/
theorem powerOnHasInvariant : Obligations.PowerOnHasInvariant := by
  intro cfg u hr ht hu
  simp only [PowerOn.valid, Bool.and_eq_true] at hu
  obtain ⟨⟨⟨hrxForm, htxForm⟩, hrxWithin⟩, htxWithin⟩ := hu
  exact {
    rxCapacity := hr
    txCapacity := ht
    rxcurBound := Nat.zero_le _
    txcurBound := Nat.zero_le _
    sendingBound := fun _ => ht
    cntBound := Nat.zero_le _
    disabledUnarmed := fun _ => ⟨rfl, rfl⟩
    enabledStart := by simp [State.resetWith]
    pendingStart := by simp [State.resetWith]
    onePending := by simp [State.resetWith]
    pendingUnarmed := by simp [State.resetWith]
    driving := by simp [State.resetWith]
    rxbufForm := hrxForm
    txbufForm := htxForm
    rxbufWithin := hrxWithin
    txbufWithin := htxWithin
    inputsEnvironment := by simp [State.resetWith] }

/-- Settles O49: the fields are those of `State.resetWith`, and with no bit pending no service is enabled. -/
theorem resetLeavesSpecifiedElements : Obligations.ResetLeavesSpecifiedElements := by
  intro cfg u
  exact ⟨State.resetWith cfg u, rfl, rfl, rfl, rfl, rfl, rfl, rfl, rfl, rfl, rfl, rfl, rfl,
    hold_eq_false.mpr ⟨rfl, rfl⟩, slaveSda_of_input rfl, rfl⟩

/-- Every reachable state has the invariant. -/
theorem inv_of_reachable {s : State} (h : Reachable s) : Inv s := by
  induction h with
  | powerOn cfg u hr ht hu => exact powerOnHasInvariant cfg u hr ht hu
  | load s its _ hi ih => exact inv_withInputs ih hi
  | next s t _ hs ih => exact stepKeepsTheInvariant s t ih hs

/-- A cursor at most the capacity fits the cursor register (00_scope.md R7). -/
theorem lt_two_pow_cursorWidth {n c : Nat} (h : n ≤ c) : n < 2 ^ Config.cursorWidth c :=
  Nat.lt_of_le_of_lt h (Nat.lt_size_self c)

/-- Settles O52: the bounds of the invariant, and the width of R7. -/
theorem reachableCursorsFitTheirWidths : Obligations.ReachableCursorsFitTheirWidths := by
  intro s hs
  have h := inv_of_reachable hs
  exact ⟨h.rxcurBound, h.txcurBound, lt_two_pow_cursorWidth h.rxcurBound, lt_two_pow_cursorWidth h.txcurBound⟩

/-! ### What the invariant gives of the services -/

/-- Settles O19: in an idle state of the invariant FORCE_IDLE writes what its four elements hold already. -/
theorem forceIdleReentryChangesNothing : Obligations.ForceIdleReentryChangesNothing := by
  intro s h hidle
  obtain ⟨⟨hen, hse⟩, hdir⟩ : (s.shiftEn = false ∧ s.startEn = true) ∧ s.sdaDir = .input := by
    simpa [idle] using hidle
  obtain ⟨-, hpend⟩ := h.disabledUnarmed hen
  rw [exec_forceIdle, forceIdle_eq]
  cases s
  cases hen; cases hse; cases hdir; cases hpend
  rfl

/-- An action leaves nothing pending and either arms 1 or 8 slots or forces idle. -/
theorem actionStep_releases {v : Byte} {s t : State} (h : Inv s) (hready : shiftReady s = true)
    (hstep : ActionStep v s t) :
    hold t = false ∧ t.startEn = true ∧ ((t.shiftEn = true ∧ (t.cnt = 1 ∨ t.cnt = 8)) ∨ idle t = true) := by
  obtain ⟨-, hen, hstart, -⟩ := shiftReady_iff.mp hready
  have hse := h.enabledStart hen
  refine ⟨hold_eq_false.mpr ?_, ?_, ?_⟩ <;> cases hstep <;> simp [hstart, hen, hse, idle]

/-- Settles O9: the enabled service is the Start Detector or an action of the Shift Engine. -/
theorem serviceReleasesTheClock : Obligations.ServiceReleasesTheClock := by
  intro s t svc h hsvc hexec
  rw [exec_enabledService hsvc] at hexec
  cases hexec
  rcases serve_cases s with ⟨hnone, -⟩ | ⟨-, hs⟩ | ⟨hready, hs⟩
  · simp [hnone] at hsvc
  · rw [hs]
    exact ⟨hold_eq_false.mpr ⟨rfl, rfl⟩, rfl, .inl ⟨rfl, .inr rfl⟩⟩
  · rw [hs]
    exact actionStep_releases h hready (actionStep_shiftComplete s.sr s)

/-! ### The start trigger -/

theorem startEn_serve (s : State) (h : s.startEn = true) : (serve s).startEn = true := by
  rcases serve_cases s with ⟨-, hs⟩ | ⟨-, hs⟩ | ⟨-, hs⟩ <;> rw [hs]
  · exact h
  · rfl
  · have hstep := actionStep_shiftComplete s.sr s
    generalize shiftComplete s.sr s = t at hstep ⊢
    cases hstep <;> simp [h]

theorem startEn_of_hostStep (i : Instr) (s t : State) (hstep : HostStep i s t) (h : s.startEn = true) :
    t.startEn = true := by
  cases hstep with
  | init => rfl
  | _ => exact h

/-- Settles O53: the environment's operations leave the enable or set it, and so does every service. -/
theorem startTriggerStaysEnabled : Obligations.StartTriggerStaysEnabled := by
  intro s t henv hse hstep
  exact step_preserve (P := fun u => u.startEn = true) startEn_serve (fun _ _ _ hu => hu) startEn_of_hostStep
    (fun _ _ _ => masterStep_preserve (fun _ _ _ hu => hu) (fun _ _ hu => hu) startEn_serve) henv hstep hse

end Sys2Proof.Machine
end

section
/-! Obligations of 10_state.md section 4 and 20_memory.md: who writes which element, and where a byte is stored. -/

namespace Sys2Proof.Machine

/-! ### What the collaborator owns -/

/-- Every element that only the collaborator and the environment write is the same in both states. -/
structure OwnedKept (s t : State) : Prop where
  addr : t.addr = s.addr
  txbuf : t.txbuf = s.txbuf
  irqInh : t.irqInh = s.irqInh
  cfg : t.cfg = s.cfg
  hostResult : t.hostResult = s.hostResult
  unitResult : t.unitResult = s.unitResult
  freeIdx : t.freeIdx = s.freeIdx
  inputs : t.inputs = s.inputs

theorem OwnedKept.refl (s : State) : OwnedKept s s := ⟨rfl, rfl, rfl, rfl, rfl, rfl, rfl, rfl⟩

theorem OwnedKept.trans {s t u : State} (h : OwnedKept s t) (h' : OwnedKept t u) : OwnedKept s u :=
  ⟨h'.addr.trans h.addr, h'.txbuf.trans h.txbuf, h'.irqInh.trans h.irqInh, h'.cfg.trans h.cfg,
    h'.hostResult.trans h.hostResult, h'.unitResult.trans h.unitResult, h'.freeIdx.trans h.freeIdx,
    h'.inputs.trans h.inputs⟩

theorem ownedKept_of_actionStep {v : Byte} {s t : State} (h : ActionStep v s t) : OwnedKept s t := by
  cases h <;> exact ⟨rfl, rfl, rfl, rfl, rfl, rfl, rfl, rfl⟩

theorem ownedKept_serve (s : State) : OwnedKept s (serve s) := by
  rcases serve_cases s with ⟨-, hs⟩ | ⟨-, hs⟩ | ⟨-, hs⟩ <;> rw [hs]
  · exact .refl s
  · rw [startDetector_eq]
    exact ⟨rfl, rfl, rfl, rfl, rfl, rfl, rfl, rfl⟩
  · exact ownedKept_of_actionStep (actionStep_shiftComplete s.sr s)

theorem ownedKept_busBit (m : Bool) (s : State) : OwnedKept s (busBit m s) :=
  ⟨rfl, rfl, rfl, rfl, rfl, rfl, rfl, rfl⟩

theorem ownedKept_busStart (s : State) : OwnedKept s (busStart s) := ⟨rfl, rfl, rfl, rfl, rfl, rfl, rfl, rfl⟩

/-- The master's operations, services included, change nothing the collaborator owns. -/
theorem ownedKept_of_masterStep {i : Instr} {s t : State} (h : MasterStep i s t) : OwnedKept s t :=
  masterStep_preserve (P := OwnedKept s) (fun m u _ hu => hu.trans (ownedKept_busBit m u))
    (fun u _ hu => hu.trans (ownedKept_busStart u)) (fun u hu => hu.trans (ownedKept_serve u)) h (.refl s)

/-- The CORE's operations write neither `ADDR` nor `TXBUF`. -/
theorem addr_txbuf_of_coreStep {i : Instr} {s t : State} (h : CoreStep i s t) :
    t.addr = s.addr ∧ t.txbuf = s.txbuf := by
  cases h with
  | action p _ =>
    have hkept := ownedKept_of_actionStep (actionStep_shiftComplete s.sr s)
    exact ⟨hkept.addr, hkept.txbuf⟩
  | loadAndArm =>
    have hkept := ownedKept_of_actionStep (actionStep_loadAndArm s.sr s)
    exact ⟨hkept.addr, hkept.txbuf⟩
  | _ => exact ⟨rfl, rfl⟩

/-- SET_ADDRESS is the one writer of `ADDR`, TX_WRITE of `TXBUF`. -/
theorem writer_of_exec {i : Instr} {s t : State} (h : exec i s = .next t) :
    (t.addr ≠ s.addr → ∃ a, i = .setAddress a ∧ t.addr = addrReg a) ∧
    (t.txbuf ≠ s.txbuf → ∃ k b, i = .txWrite k b ∧ k < s.cfg.cTx ∧ t.txbuf = Memory.write s.txbuf k b) := by
  rcases exec_cases h with hh | hm | hc
  · cases hh with
    | setAddress a => exact ⟨fun _ => ⟨a, rfl, rfl⟩, fun hne => absurd rfl hne⟩
    | txWrite k b _ hk => exact ⟨fun hne => absurd rfl hne, fun _ => ⟨k, b, rfl, hk, rfl⟩⟩
    | _ => exact ⟨fun hne => absurd rfl hne, fun hne => absurd rfl hne⟩
  · have hkept := ownedKept_of_masterStep hm
    exact ⟨fun hne => absurd hkept.addr hne, fun hne => absurd hkept.txbuf hne⟩
  · obtain ⟨haddr, htx⟩ := addr_txbuf_of_coreStep hc
    exact ⟨fun hne => absurd haddr hne, fun hne => absurd htx hne⟩

/-- Settles O55: a service writes neither element, and the input that ran held the writer. -/
theorem addressAndTxBufferHaveOneWriter : Obligations.AddressAndTxBufferHaveOneWriter := by
  intro s t hstep
  rcases step_cases hstep with rfl | ⟨it, i, rest, hmem, hd, hagent, -, hexec⟩
  · have hkept := ownedKept_serve s
    exact ⟨fun hne => absurd hkept.addr hne, fun hne => absurd hkept.txbuf hne⟩
  · obtain ⟨haddr, htx⟩ := writer_of_exec hexec
    refine ⟨fun hne => ?_, fun hne => ?_⟩
    · obtain ⟨a, rfl, hval⟩ := haddr hne
      exact ⟨it, hmem, a, hagent.symm, hd, hval.trans (addrReg_eq a)⟩
    · obtain ⟨k, b, rfl, hk, hval⟩ := htx hne
      exact ⟨it, hmem, k, b, hagent.symm, hd, hk, hval⟩

/-! ### What the block and the bus own -/

/-- Settles O48: the rule of each operation of class HOST. -/
theorem hostOperationsFrame : Obligations.HostOperationsFrame := by
  intro s t i hc hexec
  cases hostStep_of_exec hc hexec with
  | init => exact ⟨rfl, rfl, rfl, rfl, rfl, rfl, rfl, rfl, rfl, rfl, fun hne => absurd rfl hne⟩
  | _ => exact ⟨rfl, rfl, rfl, rfl, rfl, rfl, rfl, rfl, rfl, rfl, fun _ => ⟨rfl, rfl, rfl, rfl, rfl, rfl⟩⟩

/-! ### The notification flags -/

/-- No flag that was set is cleared. -/
def FlagsKept (s t : State) : Prop :=
  (s.frameStarted = true → t.frameStarted = true) ∧ (s.byteReceived = true → t.byteReceived = true)

theorem FlagsKept.refl (s : State) : FlagsKept s s := ⟨id, id⟩

theorem FlagsKept.trans {s t u : State} (h : FlagsKept s t) (h' : FlagsKept t u) : FlagsKept s u :=
  ⟨h'.1 ∘ h.1, h'.2 ∘ h.2⟩

theorem flagsKept_of_actionStep {v : Byte} {s t : State} (h : ActionStep v s t) : FlagsKept s t := by
  cases h with
  | store => exact ⟨fun hf => by simp [hf], fun _ => rfl⟩
  | discard => exact ⟨id, fun hb => by simp [hb]⟩
  | _ => exact ⟨id, id⟩

theorem flagsKept_serve (s : State) : FlagsKept s (serve s) := by
  rcases serve_cases s with ⟨-, hs⟩ | ⟨-, hs⟩ | ⟨-, hs⟩ <;> rw [hs]
  · exact .refl s
  · rw [startDetector_eq]
    exact ⟨id, id⟩
  · exact flagsKept_of_actionStep (actionStep_shiftComplete s.sr s)

theorem flagsKept_of_masterStep {i : Instr} {s t : State} (h : MasterStep i s t) : FlagsKept s t :=
  masterStep_preserve (P := FlagsKept s) (fun _ _ _ hu => hu.trans ⟨id, id⟩) (fun _ _ hu => hu.trans ⟨id, id⟩)
    (fun u hu => hu.trans (flagsKept_serve u)) h (.refl s)

theorem flagsKept_of_coreStep {i : Instr} {s t : State} (h : CoreStep i s t) : FlagsKept s t := by
  cases h with
  | action p _ => exact flagsKept_of_actionStep (actionStep_shiftComplete s.sr s)
  | loadAndArm => exact flagsKept_of_actionStep (actionStep_loadAndArm s.sr s)
  | _ => exact ⟨id, id⟩

/-- A flag is cleared by its clear operation only. -/
theorem clear_of_exec {i : Instr} {s t : State} (h : exec i s = .next t) :
    (s.frameStarted = true → t.frameStarted = false → i = .clrFrameStarted) ∧
    (s.byteReceived = true → t.byteReceived = false → i = .clrByteReceived) := by
  have hkept : FlagsKept s t → (s.frameStarted = true → t.frameStarted = false → i = .clrFrameStarted) ∧
      (s.byteReceived = true → t.byteReceived = false → i = .clrByteReceived) := fun hk =>
    ⟨fun hs ht => by simp [hk.1 hs] at ht, fun hs ht => by simp [hk.2 hs] at ht⟩
  rcases exec_cases h with hh | hm | hc
  · cases hh with
    | clrFrameStarted => exact ⟨fun _ _ => rfl, fun hs ht => absurd (hs.symm.trans ht) (by decide)⟩
    | clrByteReceived => exact ⟨fun hs ht => absurd (hs.symm.trans ht) (by decide), fun _ _ => rfl⟩
    | _ => exact hkept ⟨id, id⟩
  · exact hkept (flagsKept_of_masterStep hm)
  · exact hkept (flagsKept_of_coreStep hc)

/-- Settles O54: a service clears no flag, and the input that ran held the clear operation. -/
theorem flagsClearedOnlyByCollaborator : Obligations.FlagsClearedOnlyByCollaborator := by
  intro s t hstep
  rcases step_cases hstep with rfl | ⟨it, i, rest, hmem, hd, hagent, -, hexec⟩
  · obtain ⟨hframe, hbyte⟩ := flagsKept_serve s
    exact ⟨fun hs ht => by simp [hframe hs] at ht, fun hs ht => by simp [hbyte hs] at ht⟩
  · obtain ⟨hframe, hbyte⟩ := clear_of_exec hexec
    refine ⟨fun hs ht => ?_, fun hs ht => ?_⟩
    · obtain rfl := hframe hs ht
      exact ⟨it, hmem, hagent.symm, hd⟩
    · obtain rfl := hbyte hs ht
      exact ⟨it, hmem, hagent.symm, hd⟩

/-! ### Where a byte is stored -/

/-- An action of the Shift Engine stores at the Rx cursor only. -/
theorem read_rxbuf_of_actionStep {v : Byte} {s t : State} (h : ActionStep v s t) {a : Nat} (ha : a ≠ s.rxcur) :
    Memory.read t.rxbuf a = Memory.read s.rxbuf a := by
  cases h with
  | store => exact Memory.read_write_other v ha
  | _ => rfl

/-- An action other than GET_DATA_AND_ACK's stores nothing. -/
theorem rxbuf_of_actionStep {v : Byte} {s t : State} (h : ActionStep v s t) (hp : s.pstate ≠ .getDataAndAck) :
    t.rxbuf = s.rxbuf := by
  cases h with
  | store hget => exact absurd hget hp
  | _ => rfl

theorem rxbuf_loadAndArm (s : State) : (loadAndArm s).rxbuf = s.rxbuf := by
  rcases Nat.lt_or_ge s.txcur s.cfg.cTx with hlt | hge
  · rw [loadAndArm_of_lt hlt]
  · rw [loadAndArm_of_ge hge, forceIdle_rxbuf]

/-- The CORE's operations other than GET_DATA_AND_ACK leave RxBuffer alone. -/
theorem rxbuf_of_coreStep {i : Instr} {s t : State} (h : CoreStep i s t) (hne : i ≠ .getDataAndAck) :
    t.rxbuf = s.rxbuf := by
  cases h with
  | action p hready =>
    obtain ⟨-, rfl⟩ := actionReady_iff.mp hready
    exact rxbuf_of_actionStep (actionStep_shiftComplete s.sr s) fun hp => hne (by rw [hp]; rfl)
  | loadAndArm => exact rxbuf_loadAndArm s
  | _ => rfl

/-- Settles O45: the rules of the operations that are left write neither buffer. -/
theorem otherOperationsStoreNothing : Obligations.OtherOperationsStoreNothing := by
  intro s t i hexec hwire hget htx a
  have hsame : t.rxbuf = s.rxbuf ∧ t.txbuf = s.txbuf := by
    rcases exec_cases hexec with hh | hm | hc
    · cases hh with
      | txWrite k b => exact absurd rfl (htx k b)
      | _ => exact ⟨rfl, rfl⟩
    · cases hm with
      | wire ms hc => exact absurd hc hwire
      | _ => exact ⟨rfl, rfl⟩
    · exact ⟨rxbuf_of_coreStep hc hget, (addr_txbuf_of_coreStep hc).2⟩
  rw [hsame.1, hsame.2]
  exact ⟨rfl, rfl⟩

/-- Settles O46: the two storing operations by the branches that answer a next state. -/
theorem storingOperationsStoreAtTheirIndex : Obligations.StoringOperationsStoreAtTheirIndex := by
  refine fun s t => ⟨fun hexec => ?_, fun k b hexec => ?_⟩
  · by_cases hready : actionReady .getDataAndAck s = true
    · obtain rfl : shiftComplete s.sr s = t := Host.Outcome.next.inj ((exec_action_of_ready hready).symm.trans hexec)
      have hstep := actionStep_shiftComplete s.sr s
      refine ⟨fun a ha => read_rxbuf_of_actionStep hstep ha, fun a => ?_⟩
      rw [(ownedKept_of_actionStep hstep).txbuf]
    · cases (exec_action_of_not_ready hready).symm.trans hexec
  · rcases Nat.lt_or_ge k s.cfg.cTx with hk | hk
    · rw [exec_txWrite_of_lt b hk] at hexec
      cases hexec
      exact ⟨fun a ha => Memory.read_write_other b ha, fun _ => rfl⟩
    · rw [exec_txWrite_of_ge b hk] at hexec
      cases hexec

/-! ### Where a wire format stores -/

/-- A slot only shifts and counts, or ends an armed group and runs the Shift Engine's action. -/
theorem slot_cases {m : Bool} {s t : State} (h : slot m s = some t) :
    t = busBit m s ∨ (s.cnt = 1 ∧ ActionStep (busBit m s).sr (busBit m s) t) := by
  obtain ⟨hh, rfl⟩ := slot_eq_some.mp h
  obtain ⟨hstart, hpend⟩ := hold_eq_false.mp hh
  rcases serve_cases (busBit m s) with ⟨-, hs⟩ | ⟨hready, -⟩ | ⟨hready, hs⟩
  · exact .inl hs
  · obtain ⟨hp, -, -⟩ := startReady_iff.mp hready
    simp [hstart] at hp
  · obtain ⟨hp, -, -, -⟩ := shiftReady_iff.mp hready
    have hone : s.cnt = 1 := by
      simp only [busBit_shiftPend, hpend, Bool.false_or, Bool.and_eq_true, decide_eq_true_eq] at hp
      exact hp.1
    exact .inr ⟨hone, hs ▸ actionStep_shiftComplete _ _⟩

/-- The next `n` slots store no byte: the group of a data byte, if one is armed or comes next, ends after them. -/
def StoreFree (n : Nat) (s : State) : Prop :=
  0 < s.cnt →
    (s.pstate = .getDataAndAck → n < s.cnt) ∧ (s.pstate = .requestData → n < s.cnt + 8) ∧
    (s.pstate = .checkAddress → n < s.cnt + 9)

/-- A slot before the end of a data byte leaves RxBuffer alone and one slot fewer to go. -/
theorem storeFree_slot {m : Bool} {n : Nat} {s u : State} (hu : slot m s = some u) (h : StoreFree (n + 1) s) :
    StoreFree n u ∧ u.rxbuf = s.rxbuf := by
  rcases slot_cases hu with rfl | ⟨hone, hstep⟩
  · refine ⟨fun hpos => ?_, rfl⟩
    rw [busBit_cnt] at hpos
    obtain ⟨hget, hreq, haddr⟩ := h (by omega)
    rw [busBit_cnt, busBit_pstate]
    refine ⟨fun hp => ?_, fun hp => ?_, fun hp => ?_⟩
    · have := hget hp; omega
    · have := hreq hp; omega
    · have := haddr hp; omega
  · obtain ⟨hget, hreq, haddr⟩ := h (by omega)
    cases hstep with
    | store hp => have := hget hp; omega
    | discard hp => have := hget hp; omega
    | idle => exact ⟨fun hpos => absurd hpos (by simp [hone]), rfl⟩
    | write hp =>
      have := haddr hp
      exact ⟨fun _ => ⟨nofun, fun _ => show n < 1 + 8 by omega, nofun⟩, rfl⟩
    | receive hp =>
      have := hreq hp
      exact ⟨fun _ => ⟨fun _ => show n < 8 by omega, nofun, nofun⟩, rfl⟩
    | read | load | awaitReply => exact ⟨fun _ => ⟨nofun, nofun, nofun⟩, rfl⟩

/-- Slots before the end of a data byte leave RxBuffer alone. -/
theorem rxbuf_of_storeFree {ms : List Bool} {s t : State} (h : slots ms s = some t) (hfree : StoreFree ms.length s) :
    t.rxbuf = s.rxbuf := by
  induction ms generalizing s with
  | nil => cases h; rfl
  | cons m ms ih =>
    rw [slots_cons, Option.bind_eq_some_iff] at h
    obtain ⟨u, hu, ht⟩ := h
    obtain ⟨hnext, hsame⟩ := storeFree_slot hu hfree
    exact (ih ht hnext).trans hsame

/-- A slot that moves the Rx cursor leaves a data byte at least nine slots away. -/
theorem rxcur_or_storeFree_of_slot {m : Bool} {n : Nat} {s u : State} (hu : slot m s = some u) (hn : n < 8) :
    u.rxcur = s.rxcur ∨ StoreFree n u := by
  rcases slot_cases hu with rfl | ⟨-, hstep⟩
  · exact .inl rfl
  · cases hstep with
    | write | store => exact .inr fun _ => ⟨nofun, fun _ => Nat.lt_add_left 1 hn, nofun⟩
    | idle | read | load | awaitReply | receive | discard => exact .inl rfl

/-- A slot stores at the Rx cursor only. -/
theorem read_rxbuf_of_slot {m : Bool} {s u : State} (hu : slot m s = some u) {a : Nat} (ha : a ≠ s.rxcur) :
    Memory.read u.rxbuf a = Memory.read s.rxbuf a := by
  rcases slot_cases hu with rfl | ⟨-, hstep⟩
  · rfl
  · exact read_rxbuf_of_actionStep hstep ha

/-- Up to eight slots store at the cursor of their first slot only. -/
theorem read_rxbuf_of_slots {ms : List Bool} {s t : State} (h : slots ms s = some t) (hlen : ms.length ≤ 8)
    {a : Nat} (ha : a ≠ s.rxcur) : Memory.read t.rxbuf a = Memory.read s.rxbuf a := by
  induction ms generalizing s with
  | nil => cases h; rfl
  | cons m ms ih =>
    rw [slots_cons, Option.bind_eq_some_iff] at h
    obtain ⟨u, hu, ht⟩ := h
    rw [List.length_cons] at hlen
    rw [← read_rxbuf_of_slot hu ha]
    rcases rxcur_or_storeFree_of_slot hu hlen with hcur | hfree
    · exact ih ht (by omega) (hcur ▸ ha)
    · rw [rxbuf_of_storeFree ht hfree]

/-- Settles O47: every slot keeps what the collaborator owns, and eight slots have one store. -/
theorem wireFormatsFrame : Obligations.WireFormatsFrame := by
  intro s t i hc hexec
  have hkept := ownedKept_of_masterStep (masterStep_of_exec (.inr hc) hexec)
  obtain ⟨m, ms, hslots, hlen⟩ := exec_wire hc
  rw [hslots, transfer_eq_next] at hexec
  exact ⟨hkept.addr, hkept.txbuf, hkept.irqInh, hkept.cfg, hkept.hostResult, hkept.unitResult, hkept.freeIdx,
    hkept.inputs, fun a ha => read_rxbuf_of_slots hexec hlen ha⟩

end Sys2Proof.Machine
end

section
/-! Obligation of 10_state.md and 92_eei_decisions.md D22: the `PSTATE` kept while the shift trigger is disabled is not
observed (log 21). The simulation runs a state beside the same state with another `PSTATE`, through the layers of a
step. -/

namespace Sys2Proof.Machine

/-- Two outcomes that agree but for the `PSTATE` of a next state in which the shift trigger is disabled. -/
inductive AgreeButPstate :
    Host.Outcome State Fault Refusal → Host.Outcome State Fault Refusal → Prop
  | next (t : State) (q : PState) (hq : t.shiftEn = true → q = t.pstate) :
      AgreeButPstate (.next t) (.next (setPstate q t))
  | refused (r : Refusal) : AgreeButPstate (.refused r) (.refused r)

/-- Equal next states agree. -/
theorem AgreeButPstate.same (t : State) : AgreeButPstate (.next t) (.next t) := .next t t.pstate fun _ => rfl

/-- With the shift trigger disabled another `PSTATE` may stand in the second outcome. -/
theorem AgreeButPstate.retained {t : State} (p : PState) (h : t.shiftEn = false) :
    AgreeButPstate (.next t) (.next (setPstate p t)) :=
  .next t p fun hen => by simp [h] at hen

/-! ### The environment's operations -/

section
variable {s : State} (p : PState) (hen : s.shiftEn = false)
include hen

/-- With the shift trigger disabled a slot runs no service. -/
theorem slot_of_disabled (m : Bool) (hh : hold s = false) : slot m s = some (busBit m s) := by
  obtain ⟨hstart, hpend⟩ := hold_eq_false.mp hh
  refine slot_eq_some.mpr ⟨hh, (serve_of_none ?_).symm⟩
  simp [enabledService, startReady, shiftReady, hstart, hpend, hen]

omit hen in
theorem slot_of_held (m : Bool) (hh : hold s = true) : slot m s = none := by
  simp [slot, hh]

theorem slots_setPstate (ms : List Bool) :
    slots ms (setPstate p s) = (slots ms s).map (setPstate p) ∧ ∀ t ∈ slots ms s, t.shiftEn = false := by
  induction ms generalizing s with
  | nil => exact ⟨rfl, by simpa using hen⟩
  | cons m ms ih =>
    cases hh : hold s with
    | true =>
      have hh' : hold (setPstate p s) = true := hh
      simp [slots_cons, slot_of_held m hh, slot_of_held m hh']
    | false =>
      have hslot := slot_of_disabled hen m hh
      have hslot' : slot m (setPstate p s) = some (setPstate p (busBit m s)) :=
        slot_of_disabled (s := setPstate p s) hen m hh
      simpa [slots_cons, hslot, hslot'] using ih (s := busBit m s) hen

theorem transfer_agree (ms : List Bool) : AgreeButPstate (transfer ms s) (transfer ms (setPstate p s)) := by
  obtain ⟨hmap, hdis⟩ := slots_setPstate p hen ms
  unfold transfer
  rw [hmap]
  cases hs : slots ms s with
  | none => exact .refused _
  | some t => exact .retained p (hdis t hs)

theorem conditionBlocked_setPstate : conditionBlocked (setPstate p s) = conditionBlocked s := by
  have hb : byteHeld (setPstate p s) = false := byteHeld_of_disabled hen
  simp only [conditionBlocked, hb, byteHeld_of_disabled hen]
  rfl

/-- A bus event or wire format does not see `PSTATE`. -/
theorem exec_master_agree {i : Instr} (hc : i.opClass = .bus ∨ i.opClass = .wire) :
    AgreeButPstate (exec i s) (exec i (setPstate p s)) := by
  rcases hc with hbus | hwire
  · cases i <;> simp only [Instr.opClass, reduceCtorEq] at hbus
    case busStart =>
      have hb := conditionBlocked_setPstate p hen
      cases hs : conditionBlocked s with
      | none =>
        rw [exec_busStart_of_free hs, exec_busStart_of_free (hb.trans hs)]
        exact .retained (t := busStart s) p hen
      | some r => rw [exec_busStart_of_blocked hs, exec_busStart_of_blocked (hb.trans hs)]; exact .refused r
    case busBit m =>
      cases hh : hold s with
      | false =>
        rw [exec_busBit_of_free m hh, exec_busBit_of_free (s := setPstate p s) m hh]
        exact .retained (t := busBit m s) p hen
      | true => rw [exec_busBit_of_held m hh, exec_busBit_of_held (s := setPstate p s) m hh]; exact .refused _
    case busStop =>
      have hb := conditionBlocked_setPstate p hen
      cases hs : conditionBlocked s with
      | none => rw [exec_busStop_of_free hs, exec_busStop_of_free (hb.trans hs)]; exact .retained p hen
      | some r => rw [exec_busStop_of_blocked hs, exec_busStop_of_blocked (hb.trans hs)]; exact .refused r
  · obtain ⟨m, ms, hexec, -⟩ := exec_wire hwire
    rw [hexec, hexec]
    exact transfer_agree p hen (m :: ms)

/-- A collaborator operation does not see `PSTATE`. -/
theorem exec_host_agree {i : Instr} (hc : i.opClass = .host) :
    AgreeButPstate (exec i s) (exec i (setPstate p s)) := by
  cases i <;> simp only [Instr.opClass, reduceCtorEq] at hc
  case init => exact .retained (t := initialise s) p rfl
  case setAddress a => exact .retained (t := { s with addr := addrReg a }) p hen
  case rxRead k =>
    rcases Nat.lt_or_ge k s.cfg.cRx with hk | hk
    · rw [exec_rxRead_of_lt hk, exec_rxRead_of_lt (s := setPstate p s) hk]
      exact .retained (t := deliverHost _ s) p hen
    · rw [exec_rxRead_of_ge hk, exec_rxRead_of_ge (s := setPstate p s) hk]
      exact .refused _
  case rxcurRead => exact .retained (t := deliverHost _ s) p hen
  case txWrite k b =>
    rcases Nat.lt_or_ge k s.cfg.cTx with hk | hk
    · rw [exec_txWrite_of_lt b hk, exec_txWrite_of_lt (s := setPstate p s) b hk]
      exact .retained (t := { s with txbuf := Memory.write s.txbuf k b }) p hen
    · rw [exec_txWrite_of_ge b hk, exec_txWrite_of_ge (s := setPstate p s) b hk]
      exact .refused _
  case txcurReset => exact .retained (t := setTxcur 0 s) p hen
  case flagRead => exact .retained (t := deliverHost _ s) p hen
  case clrFrameStarted => exact .retained (t := clearFrameStarted s) p hen
  case clrByteReceived => exact .retained (t := clearByteReceived s) p hen
  case irqDisable => exact .retained (t := { s with irqInh := true }) p hen
  case irqEnable => exact .retained (t := { s with irqInh := false }) p hen

/-- An input of the environment does not see `PSTATE`. -/
theorem runInput_agree {it : Input} (henv : it.environment = true) :
    AgreeButPstate (runInput it s) (runInput it (setPstate p s)) := by
  cases hd : decodeWhole it.bytes with
  | error e =>
    simp only [runInput, hd]
    exact .refused _
  | ok i =>
    by_cases ha : i.agent = it.agent
    · rw [runInput_of_agent hd ha, runInput_of_agent hd ha]
      have hcore : i.agent ≠ .core := by simpa [Input.environment, ha] using henv
      rcases agent_ne_core.mp hcore with hw | hb | hh
      · exact exec_master_agree p hen (.inr hw)
      · exact exec_master_agree p hen (.inl hb)
      · exact exec_host_agree p hen hh
    · rw [runInput_of_other_agent hd ha, runInput_of_other_agent hd ha]
      exact .refused _

/-! ### The step -/

/-- The one service that can be enabled is the Start Detector, which overwrites `PSTATE`. -/
theorem stepCore_agree : AgreeButPstate (stepCore s) (stepCore (setPstate p s)) := by
  rw [stepCore_eq, stepCore_eq]
  cases hr : startReady s with
  | true =>
    rw [serve_of_startReady hr, serve_of_startReady (s := setPstate p s) hr]
    exact .same (startDetector s)
  | false =>
    have hnone : ∀ u : State, startReady u = false → u.shiftEn = false → serve u = u := fun u h1 h2 => by
      simp [serve, shiftReady, h1, h2]
    rw [hnone s hr hen, hnone (setPstate p s) hr hen]
    exact .retained p hen

end

/-- Whether a service is enabled does not depend on `PSTATE`. -/
theorem isSome_enabledService (s : State) : (enabledService s).isSome = (startReady s || shiftReady s) := by
  rcases enabledService_cases s with ⟨h, hs⟩ | ⟨h, hs⟩ | ⟨h, h', hs⟩
  · simp [h, hs]
  · simp [h, hs]
  · simp [h, h', hs]

theorem isSome_enabledService_setPstate (p : PState) (s : State) :
    (enabledService (setPstate p s)).isSome = (enabledService s).isSome := by
  rw [isSome_enabledService, isSome_enabledService]
  rfl

section
variable {s : State} (p : PState) (hen : s.shiftEn = false)
include hen

theorem stepWaiting_agree {it : Input} {rest : List Input} (henv : ∀ x ∈ rest, Input.environment x = true) :
    AgreeButPstate (stepWaiting it rest s) (stepWaiting it rest (setPstate p s)) := by
  have hsame := isSome_enabledService_setPstate p s
  cases hs : (enabledService s).isSome with
  | true =>
    rw [stepWaiting_of_service it rest hs, stepWaiting_of_service it rest (hsame.trans hs)]
    exact stepCore_agree p hen
  | false =>
    have hnone : enabledService s = none := by simpa using hs
    have hnone' : enabledService (setPstate p s) = none := by simpa [hs] using hsame
    cases htake : takeHost rest with
    | none =>
      rw [stepWaiting_of_nothing hnone htake, stepWaiting_of_nothing hnone' htake]
      exact .retained p hen
    | some pair =>
      obtain ⟨jt, rest'⟩ := pair
      obtain ⟨-, hmem, -⟩ := takeHost_sound htake
      rw [stepWaiting_of_host hnone htake, stepWaiting_of_host hnone' htake]
      exact runInput_agree (s := { s with inputs := it :: rest' }) p hen (henv jt hmem)

theorem stepInput_agree {it : Input} {rest : List Input}
    (henv : ∀ x ∈ it :: rest, Input.environment x = true) :
    AgreeButPstate (stepInput it rest s) (stepInput it rest (setPstate p s)) := by
  have hrun := runInput_agree (s := { s with inputs := rest }) p hen (henv it (by simp))
  generalize ha : runInput it { s with inputs := rest } = a at hrun
  generalize hb : runInput it (setPstate p { s with inputs := rest }) = b at hrun
  cases hrun with
  | next t q hq =>
    rw [stepInput_of_next ha, stepInput_of_next (s := setPstate p s) hb]
    exact .next t q hq
  | refused r =>
    cases hw : r.waits with
    | true =>
      rw [stepInput_of_waits ha hw, stepInput_of_waits (s := setPstate p s) hb hw]
      exact stepWaiting_agree p hen fun x hx => henv x (by simp [hx])
    | false =>
      rw [stepInput_of_refused ha hw, stepInput_of_refused (s := setPstate p s) hb hw]
      exact .refused r

theorem step_agree (henv : ∀ it ∈ s.inputs, Input.environment it = true) :
    AgreeButPstate (step s) (step (setPstate p s)) := by
  cases hq : s.inputs with
  | nil =>
    rw [step_of_no_input hq, step_of_no_input (s := setPstate p s) hq]
    exact stepCore_agree p hen
  | cons it rest =>
    have hsame := isSome_enabledService_setPstate p s
    by_cases hfirst : (enabledService s).isSome = true ∧ it.early = false
    · obtain ⟨hs, he⟩ := hfirst
      rw [step_of_service_first hq hs he, step_of_service_first (s := setPstate p s) hq (hsame.trans hs) he]
      exact stepCore_agree p hen
    · have htaken : ∀ u : State, (enabledService u).isSome = (enabledService s).isSome →
          it.early = true ∨ enabledService u = none := fun u hu => by
        rw [← Option.isNone_iff_eq_none, ← Option.not_isSome, hu]
        cases he : it.early <;> simp_all
      rw [step_of_input_first hq (htaken s rfl), step_of_input_first (s := setPstate p s) hq (htaken _ hsame)]
      exact stepInput_agree p hen (hq ▸ henv)

end

/-- Settles O56: the simulation at one step. -/
theorem retainedProtocolStateUnobserved : Obligations.RetainedProtocolStateUnobserved := by
  intro s t p henv hen hstep
  have hagree := step_agree p hen henv
  generalize hb : step (setPstate p s) = b at hagree
  rw [hstep] at hagree
  cases hagree with
  | next _ q hq => exact ⟨q, hb, hq⟩

end Sys2Proof.Machine
end

section
/-! Obligations of 30_encoding.md section 1, 40_shift_unit_and_bus.md sections 4 to 6, 42_shift_engine.md section 4: the
bits of a shift group and the event level above them (log 11). -/

namespace Sys2Proof.Machine

/-! ### The slots of a group -/

/-- The state after slots with levels `ws` that end no group: shifted, counted, sampled (R91). -/
def clocked (ws : List Bool) (s : State) : State :=
  { s with sr := ws.foldl shiftIn s.sr, cnt := s.cnt - ws.length, busResult := ws.getLast?.or s.busResult }

/-- The state after the slots of a whole armed group, the completion pending. -/
def completedGroup (ws : List Bool) (s : State) : State := { clocked ws s with shiftPend := true }

/-- The levels on the data line while the master puts `ms` on it and no group ends: wired-AND, the register turning in
each slot (R87, R91). -/
def levels : List Bool → State → List Bool
  | [], _ => []
  | m :: ms, s => sdaLevel m s :: levels ms (clocked [sdaLevel m s] s)

@[simp] theorem levels_nil (s : State) : levels [] s = [] := rfl

@[simp] theorem clocked_sdaDir (ws : List Bool) (s : State) : (clocked ws s).sdaDir = s.sdaDir := rfl

@[simp] theorem clocked_sr_of_slot (w : Bool) (s : State) : (clocked [w] s).sr = shiftIn s.sr w := rfl

theorem clocked_nil (s : State) : clocked [] s = s := by
  simp [clocked]

theorem clocked_cons (w : Bool) (ws : List Bool) (s : State) : clocked ws (clocked [w] s) = clocked (w :: ws) s := by
  cases ws with
  | nil => simp [clocked]
  | cons v ws =>
    have hlen : s.cnt - 1 - (ws.length + 1) = s.cnt - (ws.length + 1 + 1) := by omega
    simp [clocked, List.getLast?_cons, hlen]

theorem completedGroup_cons (w : Bool) (ws : List Bool) (s : State) :
    completedGroup ws (clocked [w] s) = completedGroup (w :: ws) s := by
  simp only [completedGroup, clocked_cons]

/-- While the slave listens the line has the master's levels. -/
theorem levels_of_input {s : State} (h : s.sdaDir = .input) (ms : List Bool) : levels ms s = ms := by
  induction ms generalizing s with
  | nil => rfl
  | cons m ms ih => rw [levels, ih (s := clocked [sdaLevel m s] s) h, sdaLevel, slaveSda_of_input h, Bool.and_true]

/-- While the slave sends and the master releases the line, the line has the register's top bit. -/
theorem levels_of_output {s : State} (h : s.sdaDir = .output) (ms : List Bool) :
    levels (true :: ms) s = s.sr.getLsbD 7 :: levels ms (clocked [s.sr.getLsbD 7] s) := by
  rw [levels, sdaLevel, slaveSda_of_output h, Bool.true_and]

/-- Eight such slots carry the register's bits, the highest first (R96). -/
theorem levels_of_sent {s : State} (h : s.sdaDir = .output) : levels (wireBits 0xFF) s = wireBits s.sr := by
  have hff : wireBits 0xFF = [true, true, true, true, true, true, true, true] := rfl
  rw [hff]
  simp only [levels_of_output, levels_nil, clocked_sdaDir, clocked_sr_of_slot, h, shiftIn_getLsbD]
  simp [wireBits]

/-- A slot that ends no group. -/
theorem busBit_eq_clocked {s : State} (m : Bool) (h : s.cnt ≠ 1 ∨ s.shiftEn = false) :
    busBit m s = clocked [sdaLevel m s] s := by
  rcases h with h | h <;> simp [busBit, clocked, h]

/-- The slot that ends an armed group. -/
theorem busBit_eq_completedGroup {s : State} (m : Bool) (hc : s.cnt = 1) (hen : s.shiftEn = true) :
    busBit m s = completedGroup [sdaLevel m s] s := by
  simp [busBit, completedGroup, clocked, hc, hen]

/-- Slots that end no armed group run no service: within a group, or any number with the shift trigger disabled. -/
theorem observe_of_no_completion {ms : List Bool} {s : State} (hh : hold s = false)
    (h : ms.length < s.cnt ∨ s.shiftEn = false) : observe ms s = some (clocked (levels ms s) s, levels ms s) := by
  induction ms generalizing s with
  | nil => simp only [observe, levels, clocked_nil]
  | cons m ms ih =>
    rw [List.length_cons] at h
    have hslot : slot m s = some (clocked [sdaLevel m s] s) := by
      rcases h with hc | hen
      · rw [slot_inside hh (by omega), busBit_eq_clocked m (.inl (by omega))]
      · rw [slot_of_disabled hen m hh, busBit_eq_clocked m (.inr hen)]
    have hrest := ih (s := clocked [sdaLevel m s] s) hh
      (h.imp_left fun hc => show ms.length < s.cnt - 1 by omega)
    simp only [observe, hslot, hrest, clocked_cons, Option.map_some, levels]

/-- The slots of a whole armed group run the Shift Engine on the shifted register. -/
theorem observe_group {ms : List Bool} {s : State} (hne : ms ≠ []) (hh : hold s = false) (hc : s.cnt = ms.length)
    (hen : s.shiftEn = true) (hinh : s.irqInh = false) :
    observe ms s =
      some (shiftComplete ((levels ms s).foldl shiftIn s.sr) (completedGroup (levels ms s) s), levels ms s) := by
  induction ms generalizing s with
  | nil => exact absurd rfl hne
  | cons m ms ih =>
    rw [List.length_cons] at hc
    cases ms with
    | nil => simp only [observe, slot_last hh hc hen hinh, busBit_eq_completedGroup m hc hen, levels,
        Option.map_some, List.foldl_cons, List.foldl_nil]
    | cons m' ms =>
      rw [List.length_cons] at hc
      have hslot : slot m s = some (clocked [sdaLevel m s] s) := by
        rw [slot_inside hh (by omega), busBit_eq_clocked m (.inl (by omega))]
      have hrest := ih (s := clocked [sdaLevel m s] s) (by simp) hh
        (show s.cnt - 1 = ms.length + 1 by omega) hen hinh
      rw [observe, hslot]
      simp only [hrest, completedGroup_cons, Option.map_some]
      rfl

/-- The group of one slot. -/
theorem observe_slot {m : Bool} {s : State} (hh : hold s = false) (hc : s.cnt = 1) (hen : s.shiftEn = true)
    (hinh : s.irqInh = false) :
    observe [m] s =
      some (shiftComplete (shiftIn s.sr (sdaLevel m s))
        { s with sr := shiftIn s.sr (sdaLevel m s), cnt := 0, shiftPend := true, busResult := some (sdaLevel m s) },
        [sdaLevel m s]) := by
  rw [observe_group (ms := [m]) (by simp) hh hc hen hinh]
  simp [levels, completedGroup, clocked, hc]

/-- A byte from the master (R66, R96). -/
theorem observe_received {s : State} (h : Receiving s) (v : Byte) :
    observe (wireBits v) s =
      some (shiftComplete v
        { s with sr := v, cnt := 0, shiftPend := true, busResult := some (v.getLsbD 0) }, wireBits v) := by
  rw [observe_group (ms := wireBits v) (by simp [wireBits]) (hold_eq_false.mpr ⟨h.noStart, h.noCompletion⟩) h.count
    h.enabled h.uninhibited, levels_of_input h.direction, completedGroup, clocked, foldl_shiftIn_wireBits, h.count]
  rfl

/-- A byte to the master, who releases the line (R96). -/
theorem observe_sent {s : State} (h : Sending s) :
    observe (wireBits 0xFF) s =
      some (requestReplyForSend { s with cnt := 0, shiftPend := true, busResult := some (s.sr.getLsbD 0) },
        wireBits s.sr) := by
  rw [observe_group (ms := wireBits 0xFF) (by simp [wireBits]) (hold_eq_false.mpr ⟨h.noStart, h.noCompletion⟩) h.count
    h.enabled h.uninhibited, levels_of_sent h.direction, shiftComplete_requestReplyForSend, completedGroup, clocked,
    foldl_shiftIn_wireBits, h.count]
  · rfl
  · exact h.phase

/-! ### Received bytes -/

/-- Settles O38: the eight slots shift in the byte, whose completion runs the action of `PSTATE`. -/
theorem receivedByteIsShiftComplete : Obligations.ReceivedByteIsShiftComplete :=
  fun v _ h => transfer_of_observe (observe_received h v)

/-- An address byte of another device leaves the block idle (R114). -/
theorem observe_address_mismatch {s : State} (h : Receiving s) (hp : s.pstate = .checkAddress) {v : Byte}
    (hne : v.extractLsb' 1 7 ≠ s.addr.extractLsb' 1 7) :
    observe (wireBits v) s =
      some ({ s with sr := v, cnt := 0, busResult := some (lowBit v), shiftEn := false, startEn := true },
        wireBits v) := by
  rw [observe_received h v, shiftComplete_checkAddress, checkAddress_of_mismatch, forceIdle_eq]
  · simp [h.direction, h.noCompletion, lowBit]
  · exact hne
  · exact hp

/-- The own address for a write is acknowledged (R114). -/
theorem observe_address_write {s : State} (h : Receiving s) (hp : s.pstate = .checkAddress) {v : Byte}
    (heq : v.extractLsb' 1 7 = s.addr.extractLsb' 1 7) (hd : lowBit v = false) :
    observe (wireBits v) s =
      some ({ s with
        sr := 0x00, sdaDir := .output, cnt := 1, busResult := some false, rxcur := 0, pstate := .requestData },
        wireBits v) := by
  rw [observe_received h v, shiftComplete_checkAddress, checkAddress_of_write, ← lowBit, hd]
  · simp [h.noCompletion]
  · exact heq
  · exact hd
  · exact hp

/-- The own address for a read is acknowledged (R114). -/
theorem observe_address_read {s : State} (h : Receiving s) (hp : s.pstate = .checkAddress) {v : Byte}
    (heq : v.extractLsb' 1 7 = s.addr.extractLsb' 1 7) (hd : lowBit v = true) :
    observe (wireBits v) s =
      some ({ s with
        sr := 0x00, sdaDir := .output, cnt := 1, busResult := some true, txcur := 0, pstate := .sendData },
        wireBits v) := by
  rw [observe_received h v, shiftComplete_checkAddress, checkAddress_of_read, ← lowBit, hd]
  · simp [h.noCompletion]
  · exact heq
  · exact hd
  · exact hp

/-- The address field of an address byte (30_encoding.md R61). -/
theorem extract_addrByte (a : Addr7) (d : Bool) : (addrByte a d).extractLsb' 1 7 = a := addrField_addrByte a d

/-- Settles O39: the address byte is twice the address with the direction added, and R114 decides by its two fields. -/
theorem addressByteSelectsTransaction : Obligations.AddressByteSelectsTransaction := by
  intro a s h hp
  have hfield := extract_addrByte a
  have hlow := lowBit_addrByte a
  have hwrite : addrByte a false = BitVec.ofNat 8 (2 * a.toNat) := addrByte_eq a false
  have hread : addrByte a true = BitVec.ofNat 8 (2 * a.toNat + 1) := addrByte_eq a true
  refine ⟨fun hne => ⟨?_, ?_⟩, fun heq => ⟨?_, ?_⟩⟩
  · have hobs := observe_address_mismatch h hp (v := addrByte a false) (by rwa [hfield])
    rw [hlow, hwrite] at hobs
    rw [exec, execSlaW, hwrite, transfer_of_observe hobs]
  · have hobs := observe_address_mismatch h hp (v := addrByte a true) (by rwa [hfield])
    rw [hlow, hread] at hobs
    rw [exec, execSlaR, hread, transfer_of_observe hobs]
  · exact transfer_of_observe (observe_address_write h hp (by rwa [hfield]) (hlow false))
  · exact transfer_of_observe (observe_address_read h hp (by rwa [hfield]) (hlow true))

/-- A data byte with room is stored and acknowledged (R119). -/
theorem observe_data_stored {s : State} (h : Receiving s) (hp : s.pstate = .getDataAndAck)
    (hlt : s.rxcur < s.cfg.cRx) (d : Byte) :
    observe (wireBits d) s =
      some ({ s with
        rxbuf := Memory.write s.rxbuf s.rxcur d, rxcur := s.rxcur + 1,
        frameStarted := s.frameStarted || (s.rxcur == 0), byteReceived := true,
        sr := 0x00, sdaDir := .output, cnt := 1, busResult := some (d.getLsbD 0), pstate := .requestData },
        wireBits d) := by
  rw [observe_received h d, shiftComplete_getDataAndAck, getDataAndAck_of_lt]
  · simp [h.noCompletion]
  · exact hlt
  · exact hp

/-- A data byte without room is discarded and acknowledged (R119). -/
theorem observe_data_discarded {s : State} (h : Receiving s) (hp : s.pstate = .getDataAndAck)
    (hge : s.cfg.cRx ≤ s.rxcur) (d : Byte) :
    observe (wireBits d) s =
      some ({ s with
        byteReceived := s.byteReceived || s.cfg.rxFlagOnDiscard,
        sr := 0x00, sdaDir := .output, cnt := 1, busResult := some (d.getLsbD 0), pstate := .requestData },
        wireBits d) := by
  rw [observe_received h d, shiftComplete_getDataAndAck, getDataAndAck_of_ge]
  · simp [h.noCompletion]
  · exact hge
  · exact hp

/-- Settles O40: the memory laws say what the buffer reads as after the store. -/
theorem dataByteReachesRxBuffer : Obligations.DataByteReachesRxBuffer := by
  intro d s h hp
  refine ⟨fun hlt hwf => ⟨Memory.write s.rxbuf s.rxcur d, ?_, Memory.write_wf s.rxcur d hwf,
    Memory.read_write_same s.rxcur d hwf, fun j hj => Memory.read_write_other d hj⟩, fun hge => ?_⟩
  · exact transfer_of_observe (observe_data_stored h hp hlt d)
  · exact transfer_of_observe (observe_data_discarded h hp hge d)

/-! ### Reply and acknowledgement slots -/

/-- The slave's acknowledgement slot reads low whatever the master does (R91, R111). -/
theorem observe_ack_slot {s : State} (m : Bool) (hh : hold s = false) (hc : s.cnt = 1) (hdir : s.sdaDir = .output)
    (hsr : s.sr = 0x00) (hen : s.shiftEn = true) (hinh : s.irqInh = false) :
    observe [m] s =
      some (shiftComplete 0x00 { s with cnt := 0, shiftPend := true, busResult := some false }, [false]) := by
  have hlow : sdaLevel m s = false := by rw [sdaLevel, slaveSda_of_output hdir, hsr]; simp
  have hzero : shiftIn 0x00 false = 0x00 := by decide
  rw [observe_slot hh hc hen hinh, hlow, hsr, hzero, ← hsr]

/-- The master's reply is the level it puts in the slot (R91, R116). -/
theorem observe_reply_slot {s : State} (m : Bool) (hh : hold s = false) (hc : s.cnt = 1) (hdir : s.sdaDir = .input)
    (hen : s.shiftEn = true) (hinh : s.irqInh = false) (hp : s.pstate = .checkReplyForSend) :
    observe [m] s =
      some (checkReplyForSend (shiftIn s.sr m)
        { s with sr := shiftIn s.sr m, cnt := 0, shiftPend := true, busResult := some m }, [m]) := by
  have hlevel : sdaLevel m s = m := by rw [sdaLevel, slaveSda_of_input hdir, Bool.and_true]
  rw [observe_slot hh hc hen hinh, hlevel, shiftComplete_checkReplyForSend]
  exact hp

theorem lowBit_shiftIn (r : Byte) (w : Bool) : lowBit (shiftIn r w) = w := by
  rw [lowBit, shiftIn_getLsbD, if_pos rfl]

/-- NACK leaves the block idle (R117). -/
theorem observe_nack {s : State} (hh : hold s = false) (hc : s.cnt = 1) (hdir : s.sdaDir = .input)
    (hen : s.shiftEn = true) (hinh : s.irqInh = false) (hp : s.pstate = .checkReplyForSend) :
    observe [true] s =
      some ({ s with
        sr := shiftIn s.sr true, cnt := 0, busResult := some true, shiftEn := false, startEn := true }, [true]) := by
  rw [observe_reply_slot true hh hc hdir hen hinh hp, checkReplyForSend_of_nack _ (lowBit_shiftIn s.sr true),
    forceIdle_eq]
  simp [hdir, (hold_eq_false.mp hh).2]

/-- ACK with a byte left sends it (R117). -/
theorem observe_ack_of_lt {s : State} (hh : hold s = false) (hc : s.cnt = 1) (hdir : s.sdaDir = .input)
    (hen : s.shiftEn = true) (hinh : s.irqInh = false) (hp : s.pstate = .checkReplyForSend)
    (hlt : s.txcur < s.cfg.cTx) :
    observe [false] s =
      some ({ s with
        sr := Memory.read s.txbuf s.txcur, sdaDir := .output, cnt := 8, busResult := some false,
        pstate := .requestReplyForSend, ackedLow := !(Memory.read s.txbuf s.txcur).getLsbD 7 }, [false]) := by
  rw [observe_reply_slot false hh hc hdir hen hinh hp, checkReplyForSend_of_ack _ (lowBit_shiftIn s.sr false),
    loadAndArm_of_lt]
  · simp [hp, (hold_eq_false.mp hh).2]
  · exact hlt

/-- ACK with no byte left leaves the block idle (R117). -/
theorem observe_ack_of_ge {s : State} (hh : hold s = false) (hc : s.cnt = 1) (hdir : s.sdaDir = .input)
    (hen : s.shiftEn = true) (hinh : s.irqInh = false) (hp : s.pstate = .checkReplyForSend)
    (hge : s.cfg.cTx ≤ s.txcur) :
    observe [false] s =
      some ({ s with
        sr := shiftIn s.sr false, cnt := 0, busResult := some false, shiftEn := false, startEn := true },
        [false]) := by
  rw [observe_reply_slot false hh hc hdir hen hinh hp, checkReplyForSend_of_ack _ (lowBit_shiftIn s.sr false),
    loadAndArm_of_ge, forceIdle_eq]
  · simp [hdir, (hold_eq_false.mp hh).2]
  · exact hge

/-- Settles O41: R117 by the level in the slot. -/
theorem masterReplySlotDecides : Obligations.MasterReplySlotDecides := by
  intro s hc hdir hen hh hinh hp
  have hnack : shiftIn s.sr true = BitVec.ofNat 8 (2 * s.sr.toNat + 1) := shiftIn_toNat s.sr true
  have hack : shiftIn s.sr false = BitVec.ofNat 8 (2 * s.sr.toNat) := shiftIn_toNat s.sr false
  refine ⟨?_, fun hlt => ?_, fun hge => ?_⟩
  · rw [← hnack]
    exact transfer_of_observe (observe_nack hh hc hdir hen hinh hp)
  · exact transfer_of_observe (observe_ack_of_lt hh hc hdir hen hinh hp hlt)
  · rw [← hack]
    exact transfer_of_observe (observe_ack_of_ge hh hc hdir hen hinh hp hge)

/-- After the acknowledgement of a received byte the block awaits the next one (R118). -/
theorem observe_ack_slot_receive {s : State} (m : Bool) (hh : hold s = false) (hc : s.cnt = 1)
    (hdir : s.sdaDir = .output) (hsr : s.sr = 0x00) (hen : s.shiftEn = true) (hinh : s.irqInh = false)
    (hp : s.pstate = .requestData) :
    observe [m] s =
      some ({ s with sdaDir := .input, cnt := 8, busResult := some false, pstate := .getDataAndAck }, [false]) := by
  rw [observe_ack_slot m hh hc hdir hsr hen hinh, shiftComplete_requestData, requestData_eq]
  · simp [(hold_eq_false.mp hh).2]
  · exact hp

/-- After the acknowledgement of the address the block sends the byte at the cursor (R115). -/
theorem observe_ack_slot_send {s : State} (m : Bool) (hh : hold s = false) (hc : s.cnt = 1)
    (hdir : s.sdaDir = .output) (hsr : s.sr = 0x00) (hen : s.shiftEn = true) (hinh : s.irqInh = false)
    (hp : s.pstate = .sendData) (hlt : s.txcur < s.cfg.cTx) :
    observe [m] s =
      some ({ s with
        sr := Memory.read s.txbuf s.txcur, cnt := 8, busResult := some false, pstate := .requestReplyForSend,
        ackedLow := false }, [false]) := by
  rw [observe_ack_slot m hh hc hdir hsr hen hinh, shiftComplete_sendData, loadAndArm_of_lt]
  · simp [hp, hdir, (hold_eq_false.mp hh).2]
  · exact hlt
  · exact hp

/-- Settles O42: ACK and NACK are one slot with either level. -/
theorem slaveAckSlotReadsLow : Obligations.SlaveAckSlotReadsLow := by
  intro s i hi hc hdir hsr hen hh hinh
  obtain ⟨m, hexec⟩ : ∃ m, ∀ s, exec i s = transfer [m] s := by
    rcases hi with rfl | rfl
    · exact ⟨false, fun _ => rfl⟩
    · exact ⟨true, fun _ => rfl⟩
  rw [hexec]
  exact ⟨fun hp => transfer_of_observe (observe_ack_slot_receive m hh hc hdir hsr hen hinh hp),
    fun hp hlt => transfer_of_observe (observe_ack_slot_send m hh hc hdir hsr hen hinh hp hlt)⟩

/-! ### Sent bytes -/

/-- A sent byte, sampled whole, leaves the block awaiting the reply (R116). -/
theorem observe_sent_byte {s : State} (h : Sending s) :
    observe (wireBits 0xFF) s =
      some ({ s with
        txcur := s.txcur + 1, sdaDir := .input, cnt := 1, busResult := some (s.sr.getLsbD 0),
        pstate := .checkReplyForSend }, wireBits s.sr) := by
  rw [observe_sent h, requestReplyForSend_eq]
  simp [h.noCompletion]

/-- Inside a sent byte the slave keeps starts and stops away exactly if the byte was marked and the configuration takes
that reading (70_reset_and_hazards.md R189, log 25). -/
theorem byteHeld_of_sending {s u : State} (h : Sending s) (hcfg : u.cfg = s.cfg) (hen : u.shiftEn = s.shiftEn)
    (hdir : u.sdaDir = s.sdaDir) (hp : u.pstate = s.pstate) (hacked : u.ackedLow = s.ackedLow) (hcnt : 0 < u.cnt) :
    byteHeld u = (s.cfg.lowByteHoldsBus && s.ackedLow) := by
  simp [byteHeld, hcfg, hen, hdir, hp, hacked, hcnt, h.enabled, h.direction, h.phase]

/-- Settles O43: within the byte only `SR`, the count and the sampled level change, so `byteHeld` and the line decide
both events. -/
theorem sentByteIsSampledByMaster : Obligations.SentByteIsSampledByMaster := by
  intro s h
  have hsent := observe_sent_byte h
  have hhold : hold s = false := hold_eq_false.mpr ⟨h.noStart, h.noCompletion⟩
  refine ⟨_, hsent, transfer_of_observe hsent, rfl, fun ms hlen => ?_⟩
  obtain ⟨r, w, ws, hobs⟩ := observe_within_group (ms := ms) hhold (by rw [h.count]; exact hlen)
  refine ⟨_, ws, hobs, ?_⟩
  generalize hu : ({ s with sr := r, cnt := s.cnt - ms.length, busResult := w } : State) = u
  have hcnt : 0 < u.cnt := by
    rw [← hu]
    exact Nat.sub_pos_of_lt (h.count ▸ hlen)
  have huhold : hold u = false := by rw [← hu]; exact hhold
  have hheld : byteHeld u = (s.cfg.lowByteHoldsBus && s.ackedLow) := by
    subst hu
    exact byteHeld_of_sending h rfl rfl rfl rfl rfl hcnt
  refine ⟨fun hlow hacked => ?_, fun hfree hline => ?_⟩
  · have hb := conditionBlocked_of_byteHeld huhold (by rw [hheld, hlow, hacked]; rfl)
    exact ⟨exec_busStart_of_blocked hb, exec_busStop_of_blocked hb⟩
  · have hnot : byteHeld u = false := by
      rw [hheld]
      rcases hfree with hf | hf <;> simp [hf]
    have hb := conditionBlocked_of_free huhold hline hnot
    rw [exec_busStart_of_free hb, busStart_of_free huhold]
    exact ⟨rfl, exec_busStop_of_free hb⟩

/-! ### Before INIT -/

/-- With no group armed slots change the register and the sampled level only (R91). -/
theorem clocked_of_unarmed {s : State} (ws : List Bool) (h : s.cnt = 0) :
    clocked ws s = { s with sr := ws.foldl shiftIn s.sr, busResult := ws.getLast?.or s.busResult } := by
  simp [clocked, h]

/-- Settles O37: with both triggers disabled a start is not noticed and no slot ends a group. -/
theorem deafBeforeInit : Obligations.DeafBeforeInit := by
  intro s i hse hen hstart hpend hcnt hdir hc
  have hhold : hold s = false := hold_eq_false.mpr ⟨hstart, hpend⟩
  have hfree : conditionBlocked s = none :=
    conditionBlocked_of_free hhold (slaveSda_of_input hdir) (byteHeld_of_input hdir)
  rcases hc with hbus | hwire
  · cases i <;> simp only [Instr.opClass, reduceCtorEq] at hbus
    case busStart =>
      rw [exec_busStart_of_free hfree, busStart_of_disabled hse]
      exact ⟨s.sr, s.busResult, rfl⟩
    case busBit m =>
      rw [exec_busBit_of_free m hhold, busBit_eq_clocked m (.inr hen), clocked_of_unarmed _ hcnt]
      exact ⟨_, _, rfl⟩
    case busStop =>
      rw [exec_busStop_of_free hfree]
      exact ⟨s.sr, s.busResult, rfl⟩
  · obtain ⟨m, ms, hexec, -⟩ := exec_wire hwire
    rw [hexec, transfer_of_observe (observe_of_no_completion hhold (.inr hen)), clocked_of_unarmed _ hcnt]
    exact ⟨_, _, rfl⟩

end Sys2Proof.Machine
end

section
/-! Obligations of 42_shift_engine.md section 7: whole transactions (R123 to R125; the slots are log 11). -/

namespace Sys2Proof.Machine

/-! ### The start of a transaction -/

/-- A start on a listening block is served and arms an address byte (R90, R101). -/
theorem runOps_start {s : State} (h : Listening s) :
    runOps [.busStart, .svcStart s.pstate.code] s = .next (startDetector s) := by
  have hfree : conditionBlocked s = none :=
    conditionBlocked_of_free (hold_eq_false.mpr ⟨h.noStart, h.noCompletion⟩) h.lineFree h.noByteHeld
  have hready : startReady (busStart s) = true :=
    startReady_iff.mpr ⟨by simp [h.startEnabled], h.startEnabled, h.uninhibited⟩
  have hsame : startDetector (busStart s) = startDetector s := by
    rw [startDetector_eq, startDetector_eq]
    rfl
  simp only [runOps, exec_busStart_of_free hfree, exec_svcStart_of_ready hready, hsame]

theorem receiving_startDetector {s : State} (h : Listening s) : Receiving (startDetector s) :=
  ⟨rfl, rfl, rfl, rfl, rfl, h.uninhibited⟩

/-- Settles O60: the mismatch disables the shift trigger, after which slots only shift. -/
theorem addressMismatchLeavesEverything : Obligations.AddressMismatchLeavesEverything := by
  intro s v ms h hne
  have haddr := observe_address_mismatch (receiving_startDetector h) rfl (v := v) hne
  have hobs := observe_append haddr (observe_of_no_completion (ms := true :: ms) rfl (.inr rfl))
  rw [levels_of_input rfl, clocked_of_unarmed _ rfl] at hobs
  simp only [startDetector_eq] at hobs
  exact ⟨_, _, _, by rw [runOps_start h, startDetector_eq], hobs⟩

/-! ### Write transactions -/

/-- The block awaits a data byte, as it does after each acknowledgement it gave: `SR` holds the 0 it drove, which is
what the master sampled last. -/
structure AwaitingData (s : State) : Prop where
  receiving : Receiving s
  phase : s.pstate = .getDataAndAck
  register : s.sr = 0x00
  sampled : s.busResult = some false

/-- The received bytes one after another (R119). -/
def acceptAll (ds : List Byte) (s : State) : State := ds.foldl (fun t d => acceptByte d t) s

theorem acceptAll_cons (d : Byte) (ds : List Byte) (s : State) :
    acceptAll (d :: ds) s = acceptAll ds (acceptByte d s) := rfl

/-- A data byte and its acknowledgement accept the byte and await the next one (R118, R119). -/
theorem observe_data_byte {s : State} (h : AwaitingData s) (d : Byte) :
    observe (wireBits d ++ [true]) s = some (acceptByte d s, wireBits d ++ [false]) := by
  obtain ⟨hr, hp, hsr, hsampled⟩ := h
  have hhold : hold s = false := hold_eq_false.mpr ⟨hr.noStart, hr.noCompletion⟩
  rcases Nat.lt_or_ge s.rxcur s.cfg.cRx with hlt | hge
  · rw [observe_append (observe_data_stored hr hp hlt d)
      (observe_ack_slot_receive true hhold rfl rfl rfl hr.enabled hr.uninhibited rfl), acceptByte_of_lt d hlt]
    simp [hsr, hr.direction, hr.count, hsampled, hp]
  · rw [observe_append (observe_data_discarded hr hp hge d)
      (observe_ack_slot_receive true hhold rfl rfl rfl hr.enabled hr.uninhibited rfl), acceptByte_of_ge d hge]
    simp [hsr, hr.direction, hr.count, hsampled, hp]

theorem awaitingData_acceptByte {s : State} (h : AwaitingData s) (d : Byte) : AwaitingData (acceptByte d s) := by
  obtain ⟨⟨hc, hd, he, hs, hn, hi⟩, hp, hsr, hsampled⟩ := h
  rcases Nat.lt_or_ge s.rxcur s.cfg.cRx with hlt | hge
  · rw [acceptByte_of_lt d hlt]
    exact ⟨⟨hc, hd, he, hs, hn, hi⟩, hp, hsr, hsampled⟩
  · rw [acceptByte_of_ge d hge]
    exact ⟨⟨hc, hd, he, hs, hn, hi⟩, hp, hsr, hsampled⟩

/-- Any number of data bytes, each acknowledged. -/
theorem observe_data_bytes {s : State} (h : AwaitingData s) (ds : List Byte) :
    observe (ds.flatMap fun d => wireBits d ++ [true]) s =
      some (acceptAll ds s, ds.flatMap fun d => wireBits d ++ [false]) ∧ AwaitingData (acceptAll ds s) := by
  induction ds generalizing s with
  | nil => exact ⟨rfl, h⟩
  | cons d ds ih =>
    obtain ⟨hobs, hawait⟩ := ih (awaitingData_acceptByte h d)
    rw [List.flatMap_cons, List.flatMap_cons, acceptAll_cons]
    exact ⟨observe_append (observe_data_byte h d) hobs, hawait⟩

/-- The cursor advances to the capacity at most (R119). -/
theorem acceptAll_rxcur {s : State} (ds : List Byte) (h : s.rxcur ≤ s.cfg.cRx) :
    (acceptAll ds s).rxcur = min (s.rxcur + ds.length) s.cfg.cRx := by
  induction ds generalizing s with
  | nil => simp [acceptAll, h]
  | cons d ds ih =>
    rw [acceptAll_cons, List.length_cons]
    rcases Nat.lt_or_ge s.rxcur s.cfg.cRx with hlt | hge
    · rw [acceptByte_of_lt d hlt, ih (by simpa using hlt)]
      simp only
      omega
    · rw [acceptByte_of_ge d hge, ih (by simpa using h)]
      simp only
      omega

/-- Accepting a byte changes nothing but RxBuffer, its cursor and the flags (R119). -/
theorem acceptByte_kept (d : Byte) (s : State) :
    (acceptByte d s).cfg = s.cfg ∧ (acceptByte d s).addr = s.addr ∧ (acceptByte d s).txbuf = s.txbuf ∧
    (acceptByte d s).txcur = s.txcur := by
  rcases Nat.lt_or_ge s.rxcur s.cfg.cRx with hlt | hge
  · rw [acceptByte_of_lt d hlt]; exact ⟨rfl, rfl, rfl, rfl⟩
  · rw [acceptByte_of_ge d hge]; exact ⟨rfl, rfl, rfl, rfl⟩

theorem acceptAll_kept (ds : List Byte) (s : State) :
    (acceptAll ds s).cfg = s.cfg ∧ (acceptAll ds s).addr = s.addr ∧ (acceptAll ds s).txbuf = s.txbuf ∧
    (acceptAll ds s).txcur = s.txcur := by
  induction ds generalizing s with
  | nil => exact ⟨rfl, rfl, rfl, rfl⟩
  | cons d ds ih =>
    obtain ⟨hcfg, haddr, htxbuf, htxcur⟩ := acceptByte_kept d s
    rw [acceptAll_cons, ← hcfg, ← haddr, ← htxbuf, ← htxcur]
    exact ih (acceptByte d s)

theorem flagsKept_acceptAll (ds : List Byte) (s : State) : FlagsKept s (acceptAll ds s) := by
  induction ds generalizing s with
  | nil => exact .refl s
  | cons d ds ih =>
    have hbyte : FlagsKept s (acceptByte d s) := by
      rcases Nat.lt_or_ge s.rxcur s.cfg.cRx with hlt | hge
      · rw [acceptByte_of_lt d hlt]; exact ⟨fun hf => by simp [hf], fun _ => rfl⟩
      · rw [acceptByte_of_ge d hge]; exact ⟨id, fun hb => by simp [hb]⟩
    exact hbyte.trans (ih (acceptByte d s))

/-- The first byte of a transaction sets both flags (D19). -/
theorem acceptAll_flags {s : State} {ds : List Byte} (hne : ds ≠ []) (hzero : s.rxcur = 0) (hroom : 1 ≤ s.cfg.cRx) :
    (acceptAll ds s).frameStarted = true ∧ (acceptAll ds s).byteReceived = true := by
  obtain ⟨d, ds, rfl⟩ := List.exists_cons_of_ne_nil hne
  obtain ⟨hframe, hbyte⟩ := flagsKept_acceptAll ds (acceptByte d s)
  rw [acceptAll_cons]
  rw [acceptByte_of_lt d (by omega)] at *
  exact ⟨hframe (by simp [hzero]), hbyte rfl⟩

/-- Cells below the cursor are not written again. -/
theorem read_acceptAll_below {s : State} (ds : List Byte) {a : Nat} (h : a < s.rxcur) :
    Memory.read (acceptAll ds s).rxbuf a = Memory.read s.rxbuf a := by
  induction ds generalizing s with
  | nil => rfl
  | cons d ds ih =>
    rw [acceptAll_cons]
    rcases Nat.lt_or_ge s.rxcur s.cfg.cRx with hlt | hge
    · rw [acceptByte_of_lt d hlt, ih (Nat.lt_succ_of_lt h)]
      exact Memory.read_write_other d (Nat.ne_of_lt h)
    · rw [acceptByte_of_ge d hge, ih]
      exact h

/-- Cells from the final cursor on are not written. -/
theorem read_acceptAll_beyond {s : State} (ds : List Byte) {a : Nat}
    (h : min (s.rxcur + ds.length) s.cfg.cRx ≤ a) :
    Memory.read (acceptAll ds s).rxbuf a = Memory.read s.rxbuf a := by
  induction ds generalizing s with
  | nil => rfl
  | cons d ds ih =>
    rw [List.length_cons] at h
    rw [acceptAll_cons]
    rcases Nat.lt_or_ge s.rxcur s.cfg.cRx with hlt | hge
    · rw [acceptByte_of_lt d hlt, ih (by simp only; omega)]
      exact Memory.read_write_other d (by omega)
    · rw [acceptByte_of_ge d hge, ih (by simp only; omega)]

/-- The `k`-th byte is stored in the `k`-th cell from the cursor on, if the cell is below the capacity. -/
theorem read_acceptAll {s : State} (ds : List Byte) (hwf : Memory.wf s.rxbuf = true) {k : Nat} (hk : k < ds.length)
    (hroom : s.rxcur + k < s.cfg.cRx) : Memory.read (acceptAll ds s).rxbuf (s.rxcur + k) = ds[k] := by
  induction ds generalizing s k with
  | nil => simp at hk
  | cons d ds ih =>
    rw [acceptAll_cons, acceptByte_of_lt d (by omega)]
    cases k with
    | zero =>
      rw [read_acceptAll_below ds (Nat.lt_succ_self s.rxcur)]
      exact Memory.read_write_same s.rxcur d hwf
    | succ k =>
      have hcell : s.rxcur + (k + 1) = s.rxcur + 1 + k := by omega
      rw [hcell, List.getElem_cons_succ, ← ih (s := { s with
        rxbuf := Memory.write s.rxbuf s.rxcur d, rxcur := s.rxcur + 1,
        frameStarted := s.frameStarted || (s.rxcur == 0), byteReceived := true })
        (Memory.write_wf s.rxcur d hwf) (by simpa using hk) (hcell ▸ hroom)]

/-- The own address for a write and its acknowledgement: the block awaits the first data byte, the cursor at 0 (R114,
R118). -/
theorem observe_write_start {s : State} (h : Listening s) :
    ∃ t, observe (wireBits (addrByte (s.addr.extractLsb' 1 7) false) ++ [true]) (startDetector s) =
        some (t, wireBits (addrByte (s.addr.extractLsb' 1 7) false) ++ [false]) ∧
      AwaitingData t ∧ t = { s with
        sr := 0x00, sdaDir := .input, cnt := 8, startEn := true, shiftEn := true, startPend := false,
        shiftPend := false, busResult := some false, rxcur := 0, pstate := .getDataAndAck } := by
  have haddr := observe_address_write (receiving_startDetector h) rfl
    (v := addrByte (s.addr.extractLsb' 1 7) false) (extract_addrByte _ _) (lowBit_addrByte _ _)
  have hobs := observe_append haddr (observe_ack_slot_receive true rfl rfl rfl rfl rfl h.uninhibited rfl)
  simp only [startDetector_eq] at hobs ⊢
  exact ⟨_, hobs, ⟨⟨rfl, rfl, rfl, rfl, rfl, h.uninhibited⟩, rfl, rfl, rfl⟩, rfl⟩

/-- Settles O57: after the address the bytes are accepted one after another, from cursor 0. -/
theorem writeTransactionFillsRxBuffer : Obligations.WriteTransactionFillsRxBuffer := by
  intro s ds h hroom hwf
  obtain ⟨u, hstart, hawait, hu⟩ := observe_write_start h
  obtain ⟨hdata, hr, hp, -, -⟩ := observe_data_bytes hawait ds
  obtain ⟨-, haddr, htxbuf, htxcur⟩ := acceptAll_kept ds u
  have hcur : u.rxcur = 0 := by rw [hu]
  have hcap : u.cfg.cRx = s.cfg.cRx := by rw [hu]
  have hbuf : u.rxbuf = s.rxbuf := by rw [hu]
  have hobs := observe_append hstart hdata
  rw [List.append_assoc, List.append_assoc, List.singleton_append, List.singleton_append] at hobs
  refine ⟨startDetector s, acceptAll ds u, runOps_start h, hobs, ?_, fun k hk hlt => ?_, fun k hk => ?_,
    fun hne => ?_, ?_, hp, hr.count, hr.direction, hr.enabled, haddr.trans (by rw [hu]), htxbuf.trans (by rw [hu]),
    htxcur.trans (by rw [hu])⟩
  · rw [acceptAll_rxcur ds (by omega), hcur, hcap, Nat.zero_add]
  · have hread := read_acceptAll ds (hbuf ▸ hwf) hk (by omega)
    rwa [hcur, Nat.zero_add] at hread
  · rw [← hbuf]
    exact read_acceptAll_beyond ds (by rwa [hcur, hcap, Nat.zero_add])
  · exact acceptAll_flags hne hcur (by omega)
  · rintro rfl
    rw [hu]
    exact ⟨rfl, rfl⟩

/-! ### Read transactions -/

/-- What a read transaction leaves alone. -/
structure ReadKept (s t : State) : Prop where
  cfg : t.cfg = s.cfg
  txbuf : t.txbuf = s.txbuf
  rxbuf : t.rxbuf = s.rxbuf
  rxcur : t.rxcur = s.rxcur
  frameStarted : t.frameStarted = s.frameStarted
  byteReceived : t.byteReceived = s.byteReceived
  addr : t.addr = s.addr

/-- In a read transaction that began in `s` the byte `k` of TxBuffer is about to be sent. -/
structure Offering (s : State) (k : Nat) (t : State) : Prop where
  sending : Sending t
  byte : t.sr = Memory.read s.txbuf k
  acked : t.ackedLow = (decide (0 < k) && !(Memory.read s.txbuf k).getLsbD 7)
  cursor : t.txcur = k
  kept : ReadKept s t

/-- A read transaction that began in `s` is over after `n` bytes. -/
structure Ended (s : State) (n : Nat) (t : State) : Prop where
  idle : idle t = true
  free : hold t = false
  cursor : t.txcur = n
  kept : ReadKept s t

/-- The own address for a read and its acknowledgement: byte 0 is about to be sent (R114, R115). -/
theorem observe_read_start {s : State} (h : Listening s) (hroom : 1 ≤ s.cfg.cTx) :
    ∃ t, observe (wireBits (addrByte (s.addr.extractLsb' 1 7) true) ++ [true]) (startDetector s) =
        some (t, wireBits (addrByte (s.addr.extractLsb' 1 7) true) ++ [false]) ∧ Offering s 0 t := by
  have haddr := observe_address_read (receiving_startDetector h) rfl
    (v := addrByte (s.addr.extractLsb' 1 7) true) (extract_addrByte _ _) (lowBit_addrByte _ _)
  have hobs := observe_append haddr (observe_ack_slot_send true rfl rfl rfl rfl rfl h.uninhibited rfl hroom)
  simp only [startDetector_eq] at hobs ⊢
  exact ⟨_, hobs, ⟨rfl, rfl, rfl, rfl, rfl, h.uninhibited, rfl⟩, rfl, rfl, rfl, ⟨rfl, rfl, rfl, rfl, rfl, rfl, rfl⟩⟩

section
variable {s t : State} {k : Nat} (h : Offering s k t)
include h

/-- A byte that the master answers with ACK, with another one left (R116, R117). -/
theorem observe_acked_byte (hlt : k + 1 < s.cfg.cTx) :
    ∃ t', observe (wireBits 0xFF ++ [false]) t = some (t', wireBits (Memory.read s.txbuf k) ++ [false]) ∧
      Offering s (k + 1) t' := by
  obtain ⟨hsend, hbyte, -, hcur, hkept⟩ := h
  have hhold : hold t = false := hold_eq_false.mpr ⟨hsend.noStart, hsend.noCompletion⟩
  have hobs := observe_append (observe_sent_byte hsend)
    (observe_ack_of_lt hhold rfl rfl hsend.enabled hsend.uninhibited rfl
      (show t.txcur + 1 < t.cfg.cTx by rw [hcur, hkept.cfg]; exact hlt))
  rw [hbyte] at hobs
  refine ⟨_, hobs, ⟨rfl, rfl, hsend.enabled, hsend.noStart, hsend.noCompletion, hsend.uninhibited, rfl⟩, ?_, ?_, ?_,
    ⟨hkept.cfg, hkept.txbuf, hkept.rxbuf, hkept.rxcur, hkept.frameStarted, hkept.byteReceived, hkept.addr⟩⟩
  · simp [hcur, hkept.txbuf]
  · simp [hcur, hkept.txbuf]
  · simp [hcur]

/-- The last byte, answered with ACK (R116, R117). -/
theorem observe_last_byte (hge : s.cfg.cTx ≤ k + 1) :
    ∃ t', observe (wireBits 0xFF ++ [false]) t = some (t', wireBits (Memory.read s.txbuf k) ++ [false]) ∧
      Ended s (k + 1) t' := by
  obtain ⟨hsend, hbyte, -, hcur, hkept⟩ := h
  have hhold : hold t = false := hold_eq_false.mpr ⟨hsend.noStart, hsend.noCompletion⟩
  have hobs := observe_append (observe_sent_byte hsend)
    (observe_ack_of_ge hhold rfl rfl hsend.enabled hsend.uninhibited rfl
      (show t.cfg.cTx ≤ t.txcur + 1 by rw [hcur, hkept.cfg]; exact hge))
  rw [hbyte] at hobs
  exact ⟨_, hobs, rfl, hhold, congrArg (· + 1) hcur,
    ⟨hkept.cfg, hkept.txbuf, hkept.rxbuf, hkept.rxcur, hkept.frameStarted, hkept.byteReceived, hkept.addr⟩⟩

/-- A byte that the master answers with NACK (R116, R117). -/
theorem observe_nacked_byte :
    ∃ t', observe (wireBits 0xFF ++ [true]) t = some (t', wireBits (Memory.read s.txbuf k) ++ [true]) ∧
      Ended s (k + 1) t' := by
  obtain ⟨hsend, hbyte, -, hcur, hkept⟩ := h
  have hhold : hold t = false := hold_eq_false.mpr ⟨hsend.noStart, hsend.noCompletion⟩
  have hobs := observe_append (observe_sent_byte hsend)
    (observe_nack hhold rfl rfl hsend.enabled hsend.uninhibited rfl)
  rw [hbyte] at hobs
  exact ⟨_, hobs, rfl, hhold, congrArg (· + 1) hcur,
    ⟨hkept.cfg, hkept.txbuf, hkept.rxbuf, hkept.rxcur, hkept.frameStarted, hkept.byteReceived, hkept.addr⟩⟩

end

/-- Bytes below the capacity, each answered with ACK. -/
theorem observe_acked_bytes {s t : State} (h : Offering s 0 t) {K : Nat} (hlt : K < s.cfg.cTx) :
    ∃ t', observe ((List.range K).flatMap fun _ => wireBits 0xFF ++ [false]) t =
        some (t', (List.range K).flatMap fun k => wireBits (Memory.read s.txbuf k) ++ [false]) ∧ Offering s K t' := by
  induction K with
  | zero => exact ⟨t, rfl, h⟩
  | succ K ih =>
    obtain ⟨u, hobs, hoffer⟩ := ih (by omega)
    obtain ⟨t', hobs', hoffer'⟩ := observe_acked_byte hoffer hlt
    simp only [List.range_succ, List.flatMap_append, List.flatMap_singleton]
    exact ⟨t', observe_append hobs hobs', hoffer'⟩

/-- Settles O58: the bytes before `M` are answered with ACK, byte `M` with NACK. -/
theorem readTransactionEndsAtNack : Obligations.ReadTransactionEndsAtNack := by
  intro s M h hM
  obtain ⟨t0, hstart, hoffer⟩ := observe_read_start h (by omega)
  obtain ⟨t1, hacked, hoffer'⟩ := observe_acked_bytes hoffer hM
  obtain ⟨t, hnacked, hidle, hfree, hcur, hkept⟩ := observe_nacked_byte hoffer'
  have hobs := observe_append hstart (observe_append hacked hnacked)
  rw [List.append_assoc, List.append_assoc, List.singleton_append, List.singleton_append] at hobs
  exact ⟨startDetector s, t, runOps_start h, hobs, hcur, hidle, hfree, hkept.txbuf, hkept.rxbuf, hkept.rxcur,
    hkept.frameStarted, hkept.byteReceived, hkept.addr⟩

/-- All bytes of the buffer, each answered with ACK, leave the block idle. -/
theorem observe_all_bytes {s t : State} (h : Offering s 0 t) (hroom : 1 ≤ s.cfg.cTx) :
    ∃ t', observe ((List.range s.cfg.cTx).flatMap fun _ => wireBits 0xFF ++ [false]) t =
        some (t', (List.range s.cfg.cTx).flatMap fun k => wireBits (Memory.read s.txbuf k) ++ [false]) ∧
      Ended s s.cfg.cTx t' := by
  obtain ⟨K, hK⟩ : ∃ K, s.cfg.cTx = K + 1 := ⟨s.cfg.cTx - 1, by omega⟩
  obtain ⟨u, hobs, hoffer⟩ := observe_acked_bytes h (K := K) (by omega)
  obtain ⟨t', hobs', hended⟩ := observe_last_byte hoffer (by omega)
  rw [hK]
  simp only [List.range_succ, List.flatMap_append, List.flatMap_singleton]
  exact ⟨t', observe_append hobs hobs', hended⟩

/-- An idle block neither drives the line nor leaves the idle configuration, whatever is clocked (R112). -/
theorem observe_of_idle {s : State} (ms : List Bool) (hidle : idle s = true) (hh : hold s = false) :
    ∃ t, observe ms s = some (t, ms) ∧ idle t = true := by
  obtain ⟨⟨hen, -⟩, hdir⟩ : (s.shiftEn = false ∧ s.startEn = true) ∧ s.sdaDir = .input := by
    simpa [idle] using hidle
  have hobs := observe_of_no_completion (ms := ms) hh (.inr hen)
  rw [levels_of_input hdir] at hobs
  exact ⟨_, hobs, hidle⟩

/-- Settles O59: below the capacity the next byte is offered; at the capacity the transaction is over. -/
theorem readTransactionAllAcknowledged : Obligations.ReadTransactionAllAcknowledged := by
  intro s K h hroom hK
  obtain ⟨t0, hstart, hoffer⟩ := observe_read_start h hroom
  rcases Nat.lt_or_eq_of_le hK with hlt | rfl
  · obtain ⟨t, hacked, hsend, hbyte, hmark, hcur, hkept⟩ := observe_acked_bytes hoffer hlt
    have hobs := observe_append hstart hacked
    rw [List.append_assoc, List.append_assoc, List.singleton_append, List.singleton_append] at hobs
    exact ⟨startDetector s, t, runOps_start h, hobs, hcur, hkept.txbuf, hkept.rxbuf, hkept.rxcur,
      fun _ => ⟨hsend, hbyte, hmark⟩, fun heq => absurd heq (Nat.ne_of_lt hlt)⟩
  · obtain ⟨t, hall, hidle, hfree, hcur, hkept⟩ := observe_all_bytes hoffer hroom
    have hobs := observe_append hstart hall
    rw [List.append_assoc, List.append_assoc, List.singleton_append, List.singleton_append] at hobs
    exact ⟨startDetector s, t, runOps_start h, hobs, hcur, hkept.txbuf, hkept.rxbuf, hkept.rxcur,
      fun hlt => absurd rfl (Nat.ne_of_lt hlt), fun _ => ⟨hidle, hfree, observe_of_idle _ hidle hfree⟩⟩

end Sys2Proof.Machine
end
